-- ==== Sys2Proof/Word.lean ====
section
/-!
DEFINITION. The byte, the unit of every buffer, frame and stimulus of FASM-PSEL (rule R9 of 00_scope.md).
-/

namespace Sys2Proof

/-- A byte is 8 bits, bit 0 least significant (R9). -/
abbrev Byte := BitVec 8

end Sys2Proof
end

