-- ==== Sys2Proof/Config.lean ====
section
/-!
DEFINITION. The implementation parameters of rule R6 (00_scope.md), under the spec's own names, and the two
parameters the step takes as arguments (R78): the open checksum function and the checksum policy.
-/

namespace Sys2Proof.Config

/-- Length in bytes of the incoming telemetry frame (R6). -/
abbrev RX_LEN : Nat := 39
/-- Bytes of telemetry fields, offsets 0 to 36 (R6). -/
abbrev RX_PAYLOAD : Nat := 37
/-- Offset of the checksum byte in the telemetry frame (R6, R92). -/
abbrev RX_CSUM_OFF : Nat := 37
/-- Offset of the marker byte in the telemetry frame (R6, R92). -/
abbrev RX_EOT_OFF : Nat := RX_LEN - 1
/-- Length in bytes of the outgoing control frame (R6). -/
abbrev TX_LEN : Nat := 11
/-- Number of single-byte button flags in the control frame (R6). -/
abbrev N_FLAGS : Nat := 9
/-- Offset of the marker byte in the control frame (R6, R91). -/
abbrev TX_EOT_OFF : Nat := 9
/-- Offset of the checksum byte in the control frame (R6, R91). -/
abbrev TX_CSUM_OFF : Nat := 10
/-- Marker byte value (R6). -/
abbrev EOT : Byte := 0x17
/-- Reserved start-of-frame value; no rule of the spec reads it (R6, R101). -/
abbrev SOF : Byte := 0x12
/-- Capacity in bytes of the assembly buffer (R6, R21). -/
abbrev CAP : Nat := 39
/-- Width in bits of the receive cursor (R6, R22). -/
abbrev CURW : Nat := 6
/-- Idle cycles after a control frame (R6). -/
abbrev TX_GAP : Nat := 11
/-- Cycles from one encode to the next (R6). -/
abbrev TX_PERIOD : Nat := TX_LEN + TX_GAP
/-- Debounce threshold of the two-button reset, in page evaluations (R6, R193). -/
abbrev COMBO_TH : Nat := 5

/-- Whether a checksum mismatch rejects the frame (R6, R175). -/
inductive CsumPolicy where
  | acceptAll
  | verifyReject
  deriving DecidableEq, Repr

/-- The two parameters a step takes as arguments, constant over a run (R78). -/
structure Params where
  /-- The checksum function, of which only its being a function may be assumed (R120). -/
  csum : List Byte → Byte
  /-- The policy applied when computed and received checksum differ (R175). -/
  policy : CsumPolicy

/-- The hardware's checksum function: an OPEN parameter, so a constant without a body that no proof can evaluate
(R6, R120; log entry 1). -/
opaque csum : List Byte → Byte

/-- The value the spec chooses for this hardware (R175; log entry 2). -/
def csumPolicy : CsumPolicy := .verifyReject

/-- Real time between two TICK events: open, and read by no rule (R6, R247). -/
opaque TICK_PERIOD : ℚ

/-- The parameters the machine's `exec` runs with. -/
def params : Params := ⟨csum, csumPolicy⟩

end Sys2Proof.Config
end

