-- ==== Sys2Proof/Syntax.lean ====
section
/-!
DEFINITION. The operations of FASM-PSEL as syntax: one constructor of `Instr` for each of the 31 rows of
opcode_table.json (two frame formats, 29 operations; rule R100 of 30_encoding.md), with the operands the rows name.
-/

namespace Sys2Proof

/-- The nine button flags of the control frame, in wire order (R41, R91). -/
structure Buttons where
  halfGas : Bool
  fullGas : Bool
  horn : Bool
  speedReset : Bool
  powerSupply : Bool
  scClose : Bool
  fuelcellOff : Bool
  fuelcellPrepareToRace : Bool
  fuelcellRace : Bool
  deriving DecidableEq, Repr

/-- The twelve inputs a TICK samples once (R41). -/
structure TickInputs where
  btn : Buttons
  modeSel : Bool
  modeAlt : Bool
  initSeqDone : Bool
  deriving DecidableEq, Repr

/-- The sixteen telemetry fields, raw unsigned bits in wire order (R27). -/
structure Telem where
  instSpeed : BitVec 8
  avgSpeed : BitVec 8
  lapMin : BitVec 16
  lapSec : BitVec 8
  lapMs : BitVec 16
  fcVoltage : BitVec 32
  fcTemp : BitVec 32
  fcFanRpm : BitVec 16
  curFcSc : BitVec 32
  curScMotor : BitVec 32
  pwmFcSc : BitVec 8
  pwmMotor : BitVec 8
  scVoltage : BitVec 32
  h2Voltage : BitVec 32
  h2Leak : BitVec 8
  emergency : BitVec 8
  deriving DecidableEq, Repr

/-- One constructor per row of opcode_table.json. -/
inductive Instr where
  /-- CTRLFRAME (R91): a whole control frame on the line. -/
  | ctrlframe (btn : Buttons) (checksum : Byte)
  /-- TELEMFRAME (R92): a whole telemetry frame on the line. -/
  | telemframe (fields : Telem) (checksum : Byte)
  /-- RESET (R260). -/
  | reset
  /-- RXBYTE (R140). -/
  | rxbyte (b : Byte)
  /-- RXBYTE.OVERFLOW (R141). -/
  | rxbyteOverflow (b : Byte)
  /-- RXBYTE.STORE (R142). -/
  | rxbyteStore (b : Byte)
  /-- RXBYTE.COMPLETE (R143). -/
  | rxbyteComplete (b : Byte)
  /-- RXBYTE.DESYNC (R144). -/
  | rxbyteDesync (b : Byte)
  /-- TICK (R160). -/
  | tick (inputs : TickInputs)
  /-- TXSTEP (R161). -/
  | txstep (btn : Buttons)
  /-- TXSTEP.LOAD (R162). -/
  | txstepLoad (btn : Buttons)
  /-- TXSTEP.SEND (R163). -/
  | txstepSend
  /-- TXSTEP.GAP (R164). -/
  | txstepGap
  /-- RXPOLL (R170). -/
  | rxpoll
  /-- RXPOLL.IDLE (R171). -/
  | rxpollIdle
  /-- RXPOLL.VALIDATE (R172). -/
  | rxpollValidate
  /-- RXPOLL.ACCEPT (R173). -/
  | rxpollAccept
  /-- RXPOLL.REJECT (R174). -/
  | rxpollReject
  /-- PAGEEVAL (R190). -/
  | pageeval (modeSel modeAlt initSeqDone : Bool)
  /-- PAGEEVAL.P0 (R192). -/
  | pageevalP0 (initSeqDone : Bool)
  /-- PAGEEVAL.CNT (R193). -/
  | pageevalCnt (modeSel modeAlt : Bool)
  /-- PAGEEVAL.P1 (R194). -/
  | pageevalP1
  /-- PAGEEVAL.P2 (R195). -/
  | pageevalP2
  /-- PAGEEVAL.P3 (R196). -/
  | pageevalP3
  /-- PAGEEVAL.P4 (R197). -/
  | pageevalP4
  /-- PAGEEVAL.P5 (R198). -/
  | pageevalP5 (modeSel modeAlt : Bool)
  /-- PAGEEVAL.P6 (R199). -/
  | pageevalP6 (modeSel modeAlt : Bool)
  /-- PAGEEVAL.NONE (R200). -/
  | pageevalNone (modeSel modeAlt : Bool)
  /-- ENCODE (R121). -/
  | encode (btn : Buttons)
  /-- DECODE (R122), on a list of bytes of any length (R123). -/
  | decode (bytes : List Byte)
  /-- CSUM (R120). -/
  | csum (bytes : List Byte)
  deriving DecidableEq, Repr

end Sys2Proof
end

