-- ==== Sys2Proof/WellFormed.lean ====
section
/-!
DEFINITION. Which terms of `Instr` are instructions: the checks on operands that a row's selection makes
independently of the state.
-/

namespace Sys2Proof

/-- The checks: COMPLETE's byte is the marker and DESYNC's is not (R143, R144), DECODE's operand is exactly 39
bytes (R122, R123). Every other operand ranges over its whole type. -/
def WellFormed : Instr → Bool
  | .ctrlframe _ _ => true
  | .telemframe _ _ => true
  | .reset => true
  | .rxbyte _ => true
  | .rxbyteOverflow _ => true
  | .rxbyteStore _ => true
  | .rxbyteComplete b => b == Config.EOT
  | .rxbyteDesync b => b != Config.EOT
  | .tick _ => true
  | .txstep _ => true
  | .txstepLoad _ => true
  | .txstepSend => true
  | .txstepGap => true
  | .rxpoll => true
  | .rxpollIdle => true
  | .rxpollValidate => true
  | .rxpollAccept => true
  | .rxpollReject => true
  | .pageeval _ _ _ => true
  | .pageevalP0 _ => true
  | .pageevalCnt _ _ => true
  | .pageevalP1 => true
  | .pageevalP2 => true
  | .pageevalP3 => true
  | .pageevalP4 => true
  | .pageevalP5 _ _ => true
  | .pageevalP6 _ _ => true
  | .pageevalNone _ _ => true
  | .encode _ => true
  | .decode F => F.length == Config.RX_LEN
  | .csum _ => true

end Sys2Proof
end

