-- ==== Sys2Proof/Decode.lean ====
section
/-!
DEFINITION. Encodings (30_encoding.md): little-endian field assembly, the two frame layouts, the event word of the
port binding (R51, R97, R106), and the decoder and encoder between stimulus words and instructions.

A STIMULUS WORD is a list of bytes, told apart by its length:
* 4 bytes: one clock's ports, `[EV, rx_data, inputs[7:0], inputs[11:8]]` with `EV[2:0]` the strobes `rst tick rx_valid`;
* 11 bytes: a ControlFrame; 39 bytes: a TelemetryFrame, offset 0 first.
-/

namespace Sys2Proof

/-! ### Byte order (R10, R66) -/

/-- The `n` low bytes of a number, least significant first: `MemWrite` of R10. -/
def leBytes : Nat → Nat → List Byte
  | 0, _ => []
  | n + 1, v => BitVec.ofNat 8 v :: leBytes n (v / 256)

/-- The number whose bytes these are, least significant first (R66). -/
def leNat : List Byte → Nat
  | [] => 0
  | b :: bs => b.toNat + 256 * leNat bs

/-- `MemRead(F, off, n)` of R10: the `n` bytes from offset `off`, little-endian, unsigned. -/
def memRead (F : List Byte) (off n : Nat) : BitVec (8 * n) :=
  BitVec.ofNat (8 * n) (leNat ((F.drop off).take n))

/-- `F[i]` of a list of bytes (every use is within the list). -/
def byteAt (F : List Byte) (i : Nat) : Byte := F.getD i 0

/-! ### The ControlFrame (R91, R94) -/

/-- A button flag's byte: `zext_8(flag)` (R94). -/
def flagByte (f : Bool) : Byte := (BitVec.ofBool f).setWidth 8

/-- The ten bytes a ControlFrame's checksum covers: nine flags and the marker (R91). -/
def ctrlBody (btn : Buttons) : List Byte :=
  [flagByte btn.halfGas, flagByte btn.fullGas, flagByte btn.horn, flagByte btn.speedReset,
    flagByte btn.powerSupply, flagByte btn.scClose, flagByte btn.fuelcellOff,
    flagByte btn.fuelcellPrepareToRace, flagByte btn.fuelcellRace, Config.EOT]

/-- The eleven bytes of a ControlFrame with this checksum byte (R91). -/
def ctrlBytes (btn : Buttons) (checksum : Byte) : List Byte := ctrlBody btn ++ [checksum]

/-! ### The TelemetryFrame (R92, R93) -/

/-- The 37 field bytes, each field little-endian at its offset (R92). -/
def telemPayload (t : Telem) : List Byte :=
  leBytes 1 t.instSpeed.toNat ++ leBytes 1 t.avgSpeed.toNat ++ leBytes 2 t.lapMin.toNat ++
  leBytes 1 t.lapSec.toNat ++ leBytes 2 t.lapMs.toNat ++ leBytes 4 t.fcVoltage.toNat ++
  leBytes 4 t.fcTemp.toNat ++ leBytes 2 t.fcFanRpm.toNat ++ leBytes 4 t.curFcSc.toNat ++
  leBytes 4 t.curScMotor.toNat ++ leBytes 1 t.pwmFcSc.toNat ++ leBytes 1 t.pwmMotor.toNat ++
  leBytes 4 t.scVoltage.toNat ++ leBytes 4 t.h2Voltage.toNat ++ leBytes 1 t.h2Leak.toNat ++
  leBytes 1 t.emergency.toNat

/-- The 39 bytes of a TelemetryFrame: fields, checksum at 37, marker at 38 (R92, R125). -/
def telemBytes (t : Telem) (checksum : Byte) : List Byte := telemPayload t ++ [checksum, Config.EOT]

/-- The sixteen fields read at their offsets (R92, R122); bytes 37 and 38 are not read. -/
def telemOfBytes (F : List Byte) : Telem where
  instSpeed := memRead F 0 1
  avgSpeed := memRead F 1 1
  lapMin := memRead F 2 2
  lapSec := memRead F 4 1
  lapMs := memRead F 5 2
  fcVoltage := memRead F 7 4
  fcTemp := memRead F 11 4
  fcFanRpm := memRead F 15 2
  curFcSc := memRead F 17 4
  curScMotor := memRead F 21 4
  pwmFcSc := memRead F 25 1
  pwmMotor := memRead F 26 1
  scVoltage := memRead F 27 4
  h2Voltage := memRead F 31 4
  h2Leak := memRead F 35 1
  emergency := memRead F 36 1

/-! ### The TICK input vector (R106) -/

/-- The 12-bit input vector, bit 0 = `halfGas`, bit 11 = `init_seq_done` (R106). -/
def TickInputs.toBits (i : TickInputs) : BitVec 12 :=
  BitVec.ofBoolListLE [i.btn.halfGas, i.btn.fullGas, i.btn.horn, i.btn.speedReset, i.btn.powerSupply,
    i.btn.scClose, i.btn.fuelcellOff, i.btn.fuelcellPrepareToRace, i.btn.fuelcellRace, i.modeSel, i.modeAlt,
    i.initSeqDone]

/-- The inputs a 12-bit input vector stands for (R106). -/
def TickInputs.ofBits (v : BitVec 12) : TickInputs where
  btn :=
    { halfGas := v.getLsbD 0, fullGas := v.getLsbD 1, horn := v.getLsbD 2, speedReset := v.getLsbD 3,
      powerSupply := v.getLsbD 4, scClose := v.getLsbD 5, fuelcellOff := v.getLsbD 6,
      fuelcellPrepareToRace := v.getLsbD 7, fuelcellRace := v.getLsbD 8 }
  modeSel := v.getLsbD 9
  modeAlt := v.getLsbD 10
  initSeqDone := v.getLsbD 11

/-- No input asserted: the trace line `TICK` (R106). -/
def TickInputs.none : TickInputs := ⟨⟨false, false, false, false, false, false, false, false, false⟩, false, false, false⟩

/-! ### Event words (R51, R97) -/

/-- The event word of a clock: strobes, `rx_data`, and the twelve level inputs. -/
def eventWord (ev : BitVec 3) (data : Byte) (inputs : BitVec 12) : List Byte :=
  [ev.setWidth 8, data, inputs.setWidth 8, (inputs >>> 8).setWidth 8]

/-- Why a stimulus word is no instruction. -/
inductive DecodeError where
  /-- Neither 4, 11 nor 39 bytes: the block has no such word (R90, R105). -/
  | badLength (n : Nat)
  /-- `EV` has three bits; a bit above them is set. -/
  | evBits (ev : Byte)
  /-- The input vector has twelve bits; a bit above them is set. -/
  | inputBits (hi : Byte)
  /-- No strobe: `EV = 000` performs no event (R97). -/
  | noEvent
  /-- A ControlFrame's flag byte is neither 0x00 nor 0x01 (R91, R94). -/
  | flagByte (offset : Nat)
  /-- A frame's marker byte is not `EOT` (R91, R92). -/
  | marker
  deriving DecidableEq, Repr

/-- What a stimulus word asks for: its first event, and the same clock's word once that event is done where the
clock performs a second one (R97, `EV = 011`). -/
structure Decoded where
  first : Option Instr
  later : Option (List Byte)
  deriving DecidableEq, Repr

/-- The events of one clock, by R97's table: `rst` alone; else RXBYTE before TICK. -/
def decodeEvent (ev data lo hi : Byte) : Except DecodeError Decoded :=
  if 8 ≤ ev.toNat then .error (.evBits ev)
  else if 16 ≤ hi.toNat then .error (.inputBits hi)
  else
    let inputs : BitVec 12 := (hi ++ lo : BitVec 16).setWidth 12
    if ev.getLsbD 2 then .ok ⟨some .reset, none⟩
    else if ev.getLsbD 0 then
      .ok ⟨some (.rxbyte data), if ev.getLsbD 1 then some (eventWord 0b010 data inputs) else none⟩
    else if ev.getLsbD 1 then .ok ⟨some (.tick (TickInputs.ofBits inputs)), none⟩
    else .ok ⟨none, none⟩

/-- The flag a ControlFrame's byte holds, if it is a flag byte (R91: `0000000x`). -/
def flagOfByte (F : List Byte) (i : Nat) : Except DecodeError Bool :=
  if byteAt F i = 0 then .ok false else if byteAt F i = 1 then .ok true else .error (.flagByte i)

/-- A ControlFrame read by its layout (R91). -/
def decodeCtrl (F : List Byte) : Except DecodeError Decoded := do
  let halfGas ← flagOfByte F 0
  let fullGas ← flagOfByte F 1
  let horn ← flagOfByte F 2
  let speedReset ← flagOfByte F 3
  let powerSupply ← flagOfByte F 4
  let scClose ← flagOfByte F 5
  let fuelcellOff ← flagOfByte F 6
  let fuelcellPrepareToRace ← flagOfByte F 7
  let fuelcellRace ← flagOfByte F 8
  if byteAt F Config.TX_EOT_OFF = Config.EOT then
    .ok ⟨some (.ctrlframe ⟨halfGas, fullGas, horn, speedReset, powerSupply, scClose, fuelcellOff,
      fuelcellPrepareToRace, fuelcellRace⟩ (byteAt F Config.TX_CSUM_OFF)), none⟩
  else .error .marker

/-- A TelemetryFrame read by its layout (R92). -/
def decodeTelem (F : List Byte) : Except DecodeError Decoded :=
  if byteAt F Config.RX_EOT_OFF = Config.EOT then
    .ok ⟨some (.telemframe (telemOfBytes F) (byteAt F Config.RX_CSUM_OFF)), none⟩
  else .error .marker

/-- The decoder, total on every list of bytes. -/
def decodeStim : List Byte → Except DecodeError Decoded
  | [ev, data, lo, hi] => decodeEvent ev data lo hi
  | F =>
    if F.length = Config.TX_LEN then decodeCtrl F
    else if F.length = Config.RX_LEN then decodeTelem F
    else .error (.badLength F.length)

/-- The instruction a stimulus word performs first. -/
def decode (w : List Byte) : Except DecodeError Instr :=
  match decodeStim w with
  | .error e => .error e
  | .ok ⟨some i, _⟩ => .ok i
  | .ok ⟨none, _⟩ => .error .noEvent

/-! ### The encoder -/

/-- What has a stimulus word of its own: the three events (R97) and the two frames (R90). -/
inductive Event where
  | ctrlframe (btn : Buttons) (checksum : Byte)
  | telemframe (fields : Telem) (checksum : Byte)
  | reset
  | rxbyte (b : Byte)
  | tick (inputs : TickInputs)
  deriving DecidableEq, Repr

/-- The instruction an event is. -/
def Event.instr : Event → Instr
  | .ctrlframe btn c => .ctrlframe btn c
  | .telemframe t c => .telemframe t c
  | .reset => .reset
  | .rxbyte b => .rxbyte b
  | .tick inputs => .tick inputs

/-- The stimulus word of an event, from opcode_table.json's match of its row and the operands' places (R97, R106). -/
def Event.word : Event → List Byte
  | .ctrlframe btn c => ctrlBytes btn c
  | .telemframe t c => telemBytes t c
  | .reset => eventWord 0b100 0 0
  | .rxbyte b => eventWord 0b001 b 0
  | .tick inputs => eventWord 0b010 0 inputs.toBits

/-- The event an instruction belongs to. A case of an event, and a function a TICK calls, is selected by state and data,
not by further encoding (R98): the word that performs it is its event's, with the inputs it does not name at 0. -/
def eventOf : Instr → Event
  | .ctrlframe btn c => .ctrlframe btn c
  | .telemframe t c => .telemframe t c
  | .reset => .reset
  | .rxbyte b => .rxbyte b
  | .rxbyteOverflow b => .rxbyte b
  | .rxbyteStore b => .rxbyte b
  | .rxbyteComplete b => .rxbyte b
  | .rxbyteDesync b => .rxbyte b
  | .tick inputs => .tick inputs
  | .txstep btn => .tick { TickInputs.none with btn := btn }
  | .txstepLoad btn => .tick { TickInputs.none with btn := btn }
  | .txstepSend => .tick .none
  | .txstepGap => .tick .none
  | .rxpoll => .tick .none
  | .rxpollIdle => .tick .none
  | .rxpollValidate => .tick .none
  | .rxpollAccept => .tick .none
  | .rxpollReject => .tick .none
  | .pageeval sel alt done => .tick { TickInputs.none with modeSel := sel, modeAlt := alt, initSeqDone := done }
  | .pageevalP0 done => .tick { TickInputs.none with initSeqDone := done }
  | .pageevalCnt sel alt => .tick { TickInputs.none with modeSel := sel, modeAlt := alt }
  | .pageevalP1 => .tick .none
  | .pageevalP2 => .tick .none
  | .pageevalP3 => .tick .none
  | .pageevalP4 => .tick .none
  | .pageevalP5 sel alt => .tick { TickInputs.none with modeSel := sel, modeAlt := alt }
  | .pageevalP6 sel alt => .tick { TickInputs.none with modeSel := sel, modeAlt := alt }
  | .pageevalNone sel alt => .tick { TickInputs.none with modeSel := sel, modeAlt := alt }
  | .encode btn => .tick { TickInputs.none with btn := btn }
  | .decode _ => .tick .none
  | .csum _ => .tick .none

/-- The word that performs an instruction: its event's. -/
def encode (i : Instr) : List Byte := (eventOf i).word

/-! ### The opcode table's numbering -/

/-- The bytes of a table word of `nbits` bits: offset 0 first (R90), an event word filled up with operand bytes of
zeros. -/
def tableBytes (nbits w : Nat) : List Byte :=
  let n := (nbits + 7) / 8
  leBytes n w ++ List.replicate (4 - n) 0

/-- The instruction the decoder reads from a table word. -/
def decodeTableWord (nbits w : Nat) : Option Instr :=
  match decode (tableBytes nbits w) with
  | .ok i => some i
  | .error _ => none

end Sys2Proof
end

