-- ==== Sys2Proof/Machine/State.lean ====
section
/-!
DEFINITION. The state of FASM-PSEL (10_state.md): the twelve items of rule R20, the outcome record of the latest event
(R50), and the environment's stimuli that are still to come; with the reasons a step can stop and the state after
reset (R55).
-/

namespace Sys2Proof.Machine

/-! ### Enumerations (R26, R31, R50, R99, R230) -/

/-- `LINK_HEALTH` (R26). -/
inductive LinkHealth where
  | synced
  | timeout
  | frameError
  deriving DecidableEq, Repr

/-- `PAGE`, the source's PageId (R31). -/
inductive Page where
  | init
  | mode1
  | leak
  | emergency
  deriving DecidableEq, Repr

/-- `rx_outcome` of an RXBYTE (R50). -/
inductive RxOutcome where
  | stored
  | complete
  | desync
  deriving DecidableEq, Repr

/-- `rx_poll` of a TICK (R50). -/
inductive RxPoll where
  | idle
  | accepted
  | rejected
  deriving DecidableEq, Repr

/-- `page_rule` of a TICK: the rule that matched (R50). -/
inductive PageRule where
  | p0
  | p1
  | p2
  | p3
  | p4
  | p5
  | p6
  | none
  deriving DecidableEq, Repr

/-- The five non-fatal error classes (R230). -/
inductive ErrorClass where
  /-- E1 (R231). -/
  | frameDesync
  /-- E2 (R232). -/
  | bufferOverflow
  /-- E3 (R233). -/
  | checksumMismatch
  /-- E4: raised by nothing in this block (R234). -/
  | linkTimeout
  /-- E5: unreachable in this block (R235). -/
  | decodeError
  deriving DecidableEq, Repr

/-- What a pure function of the codec returns (R120, R121, R122) where it is run as an operation of its own. -/
inductive FuncResult where
  | none
  | byte (b : Byte)
  | frame (bytes : List Byte)
  | fields (t : Telem)
  deriving DecidableEq, Repr

/-! ### Outputs (R50) -/

/-- The outcome record of an event (R50), the error classes it raised in order (R10, R230), and a codec function's
result. `rxOutcome` has no idle code: it is `none` where the event is no RXBYTE. -/
structure Outputs where
  rxOutcome : Option RxOutcome
  rxOverflow : Bool
  txValid : Bool
  txData : Byte
  rxPoll : RxPoll
  pageRule : PageRule
  pageChanged : Bool
  plClear : Bool
  reinit : Bool
  raised : List ErrorClass
  result : FuncResult
  deriving DecidableEq, Repr

/-- Every output at its idle value (R50). -/
def Outputs.idle : Outputs where
  rxOutcome := none
  rxOverflow := false
  txValid := false
  txData := 0x00
  rxPoll := .idle
  pageRule := .none
  pageChanged := false
  plClear := false
  reinit := false
  raised := []
  result := .none

/-! ### Buffers (R60) -/

/-- The three buffers of the block (R60); the wire is outside it and TELEM is a field file. -/
inductive Space where
  | abuf
  | flatch
  | txbuf
  deriving DecidableEq, Repr

/-- A buffer's contents: (index, byte) pairs, indices rising, no byte 0x00 listed. An index that is not listed
reads 0x00, the reset contents of every buffer (R55). -/
abbrev Memory := List Host.Cell

/-! ### The state -/

/-- The state. -/
structure State where
  /-- `ABUF`, the assembly buffer (R21). -/
  abuf : Memory
  /-- `CUR`, the receive cursor, 6 bits (R22). -/
  cur : BitVec Config.CURW
  /-- `FLATCH`, the handoff latch (R23). -/
  flatch : Memory
  /-- `FRDY`, frame complete (R24). -/
  frdy : Bool
  /-- `CSUM_BAD`, the latest checksum comparison (R25). -/
  csumBad : Bool
  /-- `LINK_HEALTH` (R26). -/
  linkHealth : LinkHealth
  /-- `TELEM`, the latest accepted telemetry (R27). -/
  telem : Telem
  /-- `TXBUF`, the control frame being sent (R29). -/
  txbuf : Memory
  /-- `TXCUR`, the transmit schedule counter, legal values 0 to 21 (R30). -/
  txcur : Fin Config.TX_PERIOD
  /-- `PAGE`, the active page (R31). -/
  page : Page
  /-- `INIT_CPLT` (R32). -/
  initCplt : Bool
  /-- `COMBO_CNT`, the debounce counter, legal values 0 to 5 (R33). -/
  comboCnt : Fin (Config.COMBO_TH + 1)
  /-- The outcome record of the latest event (R50). -/
  out : Outputs
  /-- The environment's stimulus words still to come, the next one first (R8, R51; log entry 3). -/
  stim : List (List Byte)
  deriving DecidableEq, Repr

/-- All sixteen telemetry fields 0 (R55). -/
def telemZero : Telem := ⟨0, 0, 0, 0, 0, 0, 0, 0, 0, 0, 0, 0, 0, 0, 0, 0⟩

/-- The state after RESET (R55), with every output idle (R260) and no stimulus to come. -/
def State.reset : State where
  abuf := []
  cur := 0
  flatch := []
  frdy := false
  csumBad := false
  linkHealth := .synced
  telem := telemZero
  txbuf := []
  txcur := 0
  page := .init
  initCplt := false
  comboCnt := 0
  out := Outputs.idle
  stim := []

/-! ### How a step can stop -/

/-- Faults. The spec has none (R103): this one guards the accesses whose index a register supplies. -/
inductive Fault where
  /-- Raised by `readAt` and `writeAt` for an index outside the buffer. R10 says that no rule generates one, and no
  instruction of this model raises it. Safe. -/
  | indexOutOfBuffer (sp : Space) (index : Nat)
  deriving DecidableEq, Repr

/-- Refusals. -/
inductive Refusal where
  /-- Raised by `exec` for an instruction without a meaning: none is left. Safe. -/
  | notModelled (mnemonic : String)
  /-- Raised by the meaning of a case (`RXBYTE.STORE`, `PAGEEVAL.P2`, …) run in a state that does not select it: the
  spec gives the case no effect there. Safe. -/
  | caseNotSelected (mnemonic : String)
  /-- Raised by DECODE of a list whose length is not 39 (R123, U4 of 93_implementation_defined.md). Safe. -/
  | decodeLength (n : Nat)
  /-- Raised by `step` for a stimulus word that no port of the block can carry. Safe. -/
  | badStimulus (e : DecodeError)
  deriving DecidableEq, Repr

end Sys2Proof.Machine
end

