-- ==== Sys2Proof/Machine/Ops.lean ====
section
/-!
DEFINITION. The operations the meanings share (R10 of 00_scope.md): buffers and their canonical form, checked access
by a cursor, emitting outputs, raising an error class, and ending in an outcome.
-/

namespace Sys2Proof.Machine

/-! ### Buffers -/

/-- `B[a]`: an unlisted index reads 0x00. -/
def Memory.read (m : Memory) (a : Nat) : Byte :=
  match m with
  | [] => 0x00
  | (k, v) :: rest => if k = a then v else Memory.read rest a

/-- The list without an entry at `a`. -/
def Memory.erase (m : Memory) (a : Nat) : Memory :=
  match m with
  | [] => []
  | (k, v) :: rest => if k = a then Memory.erase rest a else (k, v) :: Memory.erase rest a

/-- The list with the entry `(a, b)` in its place. -/
def Memory.insert (m : Memory) (a : Nat) (b : Byte) : Memory :=
  match m with
  | [] => [(a, b)]
  | (k, v) :: rest =>
    if a < k then (a, b) :: (k, v) :: rest
    else if a = k then (a, b) :: rest
    else (k, v) :: Memory.insert rest a b

/-- `B[a] <- b` in canonical form: writing 0x00 removes the entry. -/
def Memory.write (m : Memory) (a : Nat) (b : Byte) : Memory :=
  if b = 0x00 then m.erase a else m.insert a b

/-- `fill(B, 0x00)` (R10): nothing listed. -/
def Memory.zeros : Memory := []

/-- `B[a..a+n-1]`, the list of `n` bytes from index `a`. -/
def Memory.bytes (m : Memory) (a : Nat) : Nat → List Byte
  | 0 => []
  | n + 1 => m.read a :: Memory.bytes m (a + 1) n

/-- The buffer with `bs` written from index `a` on. -/
def Memory.writeBytes (m : Memory) (a : Nat) : List Byte → Memory
  | [] => m
  | b :: bs => Memory.writeBytes (m.write a b) (a + 1) bs

/-- A whole-buffer write: the buffer that holds `bs` from index 0. -/
def Memory.ofBytes (bs : List Byte) : Memory := Memory.zeros.writeBytes 0 bs

/-- The canonical form, below a lower bound on the indices: indices strictly rising, no byte 0x00 listed. -/
def Memory.wfFrom (lo : Nat) : Memory → Bool
  | [] => true
  | (k, v) :: rest => decide (lo ≤ k) && (v != 0x00) && Memory.wfFrom (k + 1) rest

/-- The canonical form of a buffer's contents. -/
def Memory.wf (m : Memory) : Bool := Memory.wfFrom 0 m

/-- Every listed index lies in a buffer of `size` bytes. -/
def Memory.within (size : Nat) (m : Memory) : Bool := m.all fun c => decide (c.1 < size)

/-! ### The three buffers of the state (R60 to R63) -/

/-- The size of a buffer in bytes (R60). -/
def Space.size : Space → Nat
  | .abuf => Config.CAP
  | .flatch => Config.RX_LEN
  | .txbuf => Config.TX_LEN

/-- A buffer's contents in the state. -/
def State.space (s : State) : Space → Memory
  | .abuf => s.abuf
  | .flatch => s.flatch
  | .txbuf => s.txbuf

/-- The state with a buffer's contents replaced. -/
def State.setSpace (s : State) (sp : Space) (m : Memory) : State :=
  match sp with
  | .abuf => { s with abuf := m }
  | .flatch => { s with flatch := m }
  | .txbuf => { s with txbuf := m }

/-- `B[i]` for an index a register supplies. -/
def readAt (sp : Space) (i : Nat) (s : State) : Except Fault Byte :=
  if i < sp.size then .ok ((s.space sp).read i) else .error (.indexOutOfBuffer sp i)

/-- `B[i] <- b` for an index a register supplies. -/
def writeAt (sp : Space) (i : Nat) (b : Byte) (s : State) : Except Fault State :=
  if i < sp.size then .ok (s.setSpace sp ((s.space sp).write i b)) else .error (.indexOutOfBuffer sp i)

/-- `fill(ABUF, 0x00)` and `CUR <- 0`: the assembler in `Collecting(0)` (R145). -/
def emptyAssembler (s : State) : State := { s with abuf := Memory.zeros, cur := 0 }

/-- `FLATCH[0..38]`. -/
def latched (s : State) : List Byte := s.flatch.bytes 0 Config.RX_LEN

/-- `ABUF[0..38]`. -/
def assembled (s : State) : List Byte := s.abuf.bytes 0 Config.RX_LEN

/-! ### Outputs and errors (R10, R50, R230, R242) -/

/-- The start of an event: every output takes its idle value (R50). -/
def clearOut (s : State) : State := { s with out := Outputs.idle }

/-- `raise E` (R10), the block's whole exception mechanism (R242, R243): the class is recorded in the outcome, nothing is
saved, no mode changes, control goes nowhere, and there is nothing to return from. -/
def raiseError (e : ErrorClass) (s : State) : State :=
  { s with out := { s.out with raised := s.out.raised ++ [e] } }

/-- `emit rx_outcome(o)`. -/
def emitRxOutcome (o : RxOutcome) (s : State) : State := { s with out := { s.out with rxOutcome := some o } }

/-- `emit rx_overflow(1)`. -/
def emitRxOverflow (s : State) : State := { s with out := { s.out with rxOverflow := true } }

/-- `emit tx_valid(v)` and `emit tx_data(d)`. -/
def emitTx (v : Bool) (d : Byte) (s : State) : State := { s with out := { s.out with txValid := v, txData := d } }

/-- `emit rx_poll(p)`. -/
def emitRxPoll (p : RxPoll) (s : State) : State := { s with out := { s.out with rxPoll := p } }

/-- `emit page_rule(r)`, `page_changed(c)`, `pl_clear(c)`, `reinit(ri)`: `pl_clear` always equals `page_changed`
(R50, R202). -/
def emitPage (r : PageRule) (changed ri : Bool) (s : State) : State :=
  { s with out := { s.out with pageRule := r, pageChanged := changed, plClear := changed, reinit := ri } }

/-- A codec function run as an operation of its own: it changes no item of state (R120 to R122) and returns its result. -/
def returnResult (r : FuncResult) (s : State) : State := { s with out := { Outputs.idle with result := r } }

/-! ### Ending a meaning -/

/-- A computation over the buffers as an outcome. -/
def ending (r : Except Fault State) : Host.Outcome State Fault Refusal :=
  match r with
  | .ok s => .next s
  | .error f => .fault f

/-- A case of an event: it runs where its condition selects it, and has no meaning elsewhere (R98, R100). -/
def whenSelected (mnemonic : String) (selected : Bool) (r : Except Fault State) : Host.Outcome State Fault Refusal :=
  if selected then ending r else .refused (.caseNotSelected mnemonic)

end Sys2Proof.Machine
end

