-- ==== Sys2Proof/Machine/Operands.lean ====
section
/-!
DEFINITION. Operand forms (30_encoding.md rules R93 to R95): what an operation reads from frames, telemetry and the
cursors.
-/

namespace Sys2Proof.Machine

/-- A telemetry flag byte is asserted when it is not 0x00 (R95). -/
def asserted (b : Byte) : Bool := b != 0x00

/-- `leak`: the leak sensor asserted (R191). -/
def leak (s : State) : Bool := asserted s.telem.h2Leak

/-- `emerg`: the emergency button asserted (R191). -/
def emerg (s : State) : Bool := asserted s.telem.emergency

/-- The store index of an RXBYTE: the cursor before any increment (R140). -/
def storeIndex (s : State) : Nat := s.cur.toNat

/-- The position in the transmit schedule (R30). -/
def txIndex (s : State) : Nat := s.txcur.val

/-- `ENCODE(btn)`: the eleven bytes of a ControlFrame (R121). -/
def encodeFrame (p : Config.Params) (btn : Buttons) : List Byte := ctrlBytes btn (p.csum (ctrlBody btn))

/-- `DECODE(F)`: the sixteen fields, for exactly 39 bytes (R122, R123). -/
def decodeFrame (F : List Byte) : Option Telem :=
  if F.length = Config.RX_LEN then some (telemOfBytes F) else none

/-- The 39 bytes `TELEMFRAME{…}` stands for: the sender's rule (R107, R124). -/
def senderFrame (p : Config.Params) (t : Telem) : List Byte := telemBytes t (p.csum (telemPayload t))

end Sys2Proof.Machine
end

