-- ==== Sys2Proof/Machine/Flags.lean ====
section
/-!
DEFINITION. The conditions the events select their cases by, and the flags they write (R96, R98): the marker and
checksum tests, the overflow guard, the page rules' guards, the debounce count.
-/

namespace Sys2Proof.Machine

/-- The overflow guard's test at entry (R141). -/
def overflowing (s : State) : Bool := decide (Config.CAP ≤ storeIndex s)

/-- The store index is the last of a window (R140). -/
def atLastIndex (s : State) : Bool := decide (storeIndex s = Config.RX_LEN - 1)

/-- The marker test: one whole byte (R96). -/
def isMarker (b : Byte) : Bool := b == Config.EOT

/-- The checksum test on the latched frame: `CSUM(FLATCH[0..36]) ≠ FLATCH[37]` (R96, R172). -/
def checksumBad (p : Config.Params) (s : State) : Bool :=
  p.csum (s.flatch.bytes 0 Config.RX_PAYLOAD) != s.flatch.read Config.RX_CSUM_OFF

/-- The latched frame is rejected: a mismatch under `VerifyReject` (R173, R174). -/
def rejects (p : Config.Params) (s : State) : Bool :=
  checksumBad p s && decide (p.policy = .verifyReject)

/-- `TXCUR + 1` modulo `TX_PERIOD` (R161). -/
def nextTxcur (c : Fin Config.TX_PERIOD) : Fin Config.TX_PERIOD :=
  ⟨(c.val + 1) % Config.TX_PERIOD, Nat.mod_lt _ (by decide)⟩

/-- `min(COMBO_CNT + 1, COMBO_TH)` while both mode buttons are held, else 0 (R193). -/
def nextCombo (modeSel modeAlt : Bool) (c : Fin (Config.COMBO_TH + 1)) : Fin (Config.COMBO_TH + 1) :=
  if modeSel && modeAlt then ⟨min (c.val + 1) Config.COMBO_TH, by omega⟩ else 0

/-- The combo count has reached its threshold (R199). -/
def comboFull (s : State) : Bool := decide (s.comboCnt.val = Config.COMBO_TH)

/-- P1's guard: leak asserted (R194). -/
def guardP1 (s : State) : Bool := leak s

/-- P2's guard (R195). -/
def guardP2 (s : State) : Bool := !leak s && !emerg s && decide (s.page = .leak)

/-- P3's guard (R196). -/
def guardP3 (s : State) : Bool := !leak s && emerg s && decide (s.page ≠ .emergency)

/-- P4's guard (R197). -/
def guardP4 (s : State) : Bool := !leak s && !emerg s && decide (s.page = .emergency)

/-- P5's guard (R198). -/
def guardP5 (modeSel modeAlt : Bool) (s : State) : Bool :=
  !leak s && !emerg s && modeSel && !modeAlt && decide (s.page ≠ .mode1)

/-- The first rule of P1 to P6 that matches outside `Init`, in priority order, or none (R190, R201, R241). -/
def firstRule (modeSel modeAlt : Bool) (s : State) : PageRule :=
  if guardP1 s then .p1
  else if guardP2 s then .p2
  else if guardP3 s then .p3
  else if guardP4 s then .p4
  else if guardP5 modeSel modeAlt s then .p5
  else if comboFull s then .p6
  else .none

end Sys2Proof.Machine
end

