-- ==== Sys2Proof/Machine/FrameCodec.lean ====
section
/-!
DEFINITION. FrameCodec (40_frame_codec.md): CSUM, ENCODE and DECODE, each run as an operation of its own: a pure
function whose result is returned in the outcome record.
-/

namespace Sys2Proof.Machine

/-- CSUM under any parameters (R78, R120). -/
def csumWith (p : Config.Params) (bytes : List Byte) (s : State) : Host.Outcome State Fault Refusal :=
  .next (returnResult (.byte (p.csum bytes)) s)

/-- ENCODE under any parameters (R78, R121). -/
def encodeWith (p : Config.Params) (btn : Buttons) (s : State) : Host.Outcome State Fault Refusal :=
  .next (returnResult (.frame (encodeFrame p btn)) s)

/-- CSUM (R120). -/
def execCsum (bytes : List Byte) (s : State) : Host.Outcome State Fault Refusal := csumWith Config.params bytes s

/-- ENCODE (R121). -/
def execEncode (btn : Buttons) (s : State) : Host.Outcome State Fault Refusal := encodeWith Config.params btn s

/-- DECODE (R122); a list of another length has no meaning (R123). -/
def execDecode (bytes : List Byte) (s : State) : Host.Outcome State Fault Refusal :=
  match decodeFrame bytes with
  | some t => .next (returnResult (.fields t) s)
  | none => .refused (.decodeLength bytes.length)

end Sys2Proof.Machine
end

