-- ==== Sys2Proof/Machine/LinkScheduler.lean ====
section
/-!
DEFINITION. LinkScheduler (42_link_scheduler.md): the micro-operations TXSTEP and RXPOLL of a TICK and their cases.
-/

namespace Sys2Proof.Machine

/-! ### Transmit side -/

/-- LOAD's effect (R162): `TXBUF[0..10] <- ENCODE(btn)`. -/
def loadTxbuf (p : Config.Params) (btn : Buttons) (s : State) : State :=
  { s with txbuf := Memory.ofBytes (encodeFrame p btn) }

/-- `TXCUR <- (TXCUR + 1) mod TX_PERIOD` (R161). -/
def advanceTx (s : State) : State := { s with txcur := nextTxcur s.txcur }

/-- SEND (R163): the byte at `TXCUR` is handed over. -/
def sendByte (s : State) : Except Fault State :=
  (readAt .txbuf (txIndex s) s).map fun d => advanceTx (emitTx true d s)

/-- GAP (R164): nothing is handed over. -/
def idleGap (s : State) : State := advanceTx (emitTx false 0x00 s)

/-- The whole TXSTEP micro-operation (R161). -/
def txstep (p : Config.Params) (btn : Buttons) (s : State) : Except Fault State :=
  let s := if txIndex s = 0 then loadTxbuf p btn s else s
  if txIndex s < Config.TX_LEN then sendByte s else .ok (idleGap s)

/-- TXSTEP under any parameters (R78, R161). -/
def txstepWith (p : Config.Params) (btn : Buttons) (s : State) : Host.Outcome State Fault Refusal :=
  ending (txstep p btn s)

/-- TXSTEP.LOAD under any parameters (R78, R162), then SEND in the same cycle. -/
def txstepLoadWith (p : Config.Params) (btn : Buttons) (s : State) : Host.Outcome State Fault Refusal :=
  whenSelected "TXSTEP.LOAD" (decide (txIndex s = 0)) (sendByte (loadTxbuf p btn s))

/-- TXSTEP (R161). -/
def execTxstep (btn : Buttons) (s : State) : Host.Outcome State Fault Refusal := txstepWith Config.params btn s

/-- TXSTEP.LOAD (R162). -/
def execTxstepLoad (btn : Buttons) (s : State) : Host.Outcome State Fault Refusal :=
  txstepLoadWith Config.params btn s

/-- TXSTEP.SEND (R163). DESIGN CHOICE (log entry 6): run by itself at `TXCUR = 0` it sends the byte 0 that `TXBUF` holds and
encodes nothing; in an event LOAD comes first there, and R163 does not say what SEND does without it. -/
def execTxstepSend (s : State) : Host.Outcome State Fault Refusal :=
  whenSelected "TXSTEP.SEND" (decide (txIndex s < Config.TX_LEN)) (sendByte s)

/-- TXSTEP.GAP (R164). -/
def execTxstepGap (s : State) : Host.Outcome State Fault Refusal :=
  whenSelected "TXSTEP.GAP" (decide (Config.TX_LEN ≤ txIndex s)) (.ok (idleGap s))

/-! ### Receive side -/

/-- IDLE's effect (R171). -/
def pollIdle (s : State) : State := emitRxPoll .idle s

/-- VALIDATE's own part (R172): `CSUM_BAD` takes the comparison, a mismatch raises `ChecksumMismatch`. -/
def recordChecksum (p : Config.Params) (s : State) : State :=
  if checksumBad p s then raiseError .checksumMismatch { s with csumBad := true } else { s with csumBad := false }

/-- ACCEPT's own part (R173): all sixteen fields replaced together, `LINK_HEALTH <- Synced`. -/
def acceptFrame (s : State) : State :=
  emitRxPoll .accepted { s with telem := telemOfBytes (latched s), linkHealth := .synced }

/-- REJECT's own part (R174): `LINK_HEALTH <- FrameError`. -/
def rejectFrame (s : State) : State := emitRxPoll .rejected { s with linkHealth := .frameError }

/-- `FRDY <- 0`: the latched frame is consumed (R172). -/
def consumeFrame (s : State) : State := { s with frdy := false }

/-- A pending frame that is accepted, from the comparison to the consumption (R172, R173). -/
def validateAccept (p : Config.Params) (s : State) : State := consumeFrame (acceptFrame (recordChecksum p s))

/-- A pending frame that is rejected, from the comparison to the consumption (R172, R174). -/
def validateReject (p : Config.Params) (s : State) : State := consumeFrame (rejectFrame (recordChecksum p s))

/-- VALIDATE with the case that follows it (R172). -/
def validate (p : Config.Params) (s : State) : State :=
  if rejects p s then validateReject p s else validateAccept p s

/-- The whole RXPOLL micro-operation (R170). -/
def rxpoll (p : Config.Params) (s : State) : State := if s.frdy then validate p s else pollIdle s

/-- RXPOLL under any parameters (R78, R170). -/
def rxpollWith (p : Config.Params) (s : State) : Host.Outcome State Fault Refusal := .next (rxpoll p s)

/-- RXPOLL.VALIDATE under any parameters (R78, R172). -/
def rxpollValidateWith (p : Config.Params) (s : State) : Host.Outcome State Fault Refusal :=
  whenSelected "RXPOLL.VALIDATE" s.frdy (.ok (validate p s))

/-- RXPOLL.ACCEPT under any parameters (R78, R173), with the flags it writes through VALIDATE. -/
def rxpollAcceptWith (p : Config.Params) (s : State) : Host.Outcome State Fault Refusal :=
  whenSelected "RXPOLL.ACCEPT" (s.frdy && !rejects p s) (.ok (validateAccept p s))

/-- RXPOLL.REJECT under any parameters (R78, R174), with the flags it writes through VALIDATE. -/
def rxpollRejectWith (p : Config.Params) (s : State) : Host.Outcome State Fault Refusal :=
  whenSelected "RXPOLL.REJECT" (s.frdy && rejects p s) (.ok (validateReject p s))

/-- RXPOLL (R170). -/
def execRxpoll (s : State) : Host.Outcome State Fault Refusal := rxpollWith Config.params s

/-- RXPOLL.IDLE (R171). -/
def execRxpollIdle (s : State) : Host.Outcome State Fault Refusal :=
  whenSelected "RXPOLL.IDLE" (!s.frdy) (.ok (pollIdle s))

/-- RXPOLL.VALIDATE (R172). -/
def execRxpollValidate (s : State) : Host.Outcome State Fault Refusal := rxpollValidateWith Config.params s

/-- RXPOLL.ACCEPT (R173). -/
def execRxpollAccept (s : State) : Host.Outcome State Fault Refusal := rxpollAcceptWith Config.params s

/-- RXPOLL.REJECT (R174). -/
def execRxpollReject (s : State) : Host.Outcome State Fault Refusal := rxpollRejectWith Config.params s

end Sys2Proof.Machine
end

