-- ==== Sys2Proof/Machine/PageController.lean ====
section
/-!
DEFINITION. PageController (43_page_controller.md): the micro-operation PAGEEVAL of a TICK, the debounce counter and the
priority rules P0 to P6.
-/

namespace Sys2Proof.Machine

/-- A rule's match (R201, R202): the page it gives, `page_changed` and `pl_clear` where that is another page. -/
def takeRule (r : PageRule) (new : Page) (ri : Bool) (s : State) : State :=
  emitPage r (decide (new ≠ s.page)) ri { s with page := new }

/-- The end-of-splash evaluation of leak, emergency, default (R192). -/
def splashPage (s : State) : Page := if leak s then .leak else if emerg s then .emergency else .mode1

/-- P0 (R192): the initialization hold, and its end. -/
def applyP0 (initSeqDone : Bool) (s : State) : State :=
  if initSeqDone then takeRule .p0 (splashPage s) false { s with comboCnt := 0, initCplt := true }
  else takeRule .none s.page false { s with comboCnt := 0 }

/-- CNT (R193): the debounce counter's update. -/
def applyCnt (modeSel modeAlt : Bool) (s : State) : State :=
  { s with comboCnt := nextCombo modeSel modeAlt s.comboCnt }

/-- P1 (R194). -/
def applyP1 (s : State) : State := takeRule .p1 .leak false s

/-- P2 (R195). -/
def applyP2 (s : State) : State := takeRule .p2 .mode1 false s

/-- P3 (R196). -/
def applyP3 (s : State) : State := takeRule .p3 .emergency false s

/-- P4 (R197). -/
def applyP4 (s : State) : State := takeRule .p4 .mode1 false s

/-- P5 (R198). -/
def applyP5 (s : State) : State := takeRule .p5 .mode1 false s

/-- P6 (R199): reinitialization. The link state keeps its values. -/
def applyP6 (s : State) : State := takeRule .p6 .init true { s with initCplt := false, comboCnt := 0 }

/-- NONE (R200): no rule matched. -/
def applyNone (s : State) : State := takeRule .none s.page false s

/-- The effect of the rule that matched outside `Init`. -/
def applyRule (r : PageRule) (s : State) : State :=
  match r with
  | .p0 => s
  | .p1 => applyP1 s
  | .p2 => applyP2 s
  | .p3 => applyP3 s
  | .p4 => applyP4 s
  | .p5 => applyP5 s
  | .p6 => applyP6 s
  | .none => applyNone s

/-- The whole PAGEEVAL micro-operation (R190). -/
def pageeval (modeSel modeAlt initSeqDone : Bool) (s : State) : State :=
  if s.page = .init then applyP0 initSeqDone s
  else
    let s := applyCnt modeSel modeAlt s
    applyRule (firstRule modeSel modeAlt s) s

/-- The page controller is out of its initialization hold: CNT and P1 to P6 are evaluated (R192, R193). -/
def evaluating (s : State) : Bool := decide (s.page ≠ .init)

/-- PAGEEVAL (R190). -/
def execPageeval (modeSel modeAlt initSeqDone : Bool) (s : State) : Host.Outcome State Fault Refusal :=
  .next (pageeval modeSel modeAlt initSeqDone s)

/-- PAGEEVAL.P0 (R192). -/
def execPageevalP0 (initSeqDone : Bool) (s : State) : Host.Outcome State Fault Refusal :=
  whenSelected "PAGEEVAL.P0" (decide (s.page = .init)) (.ok (applyP0 initSeqDone s))

/-- PAGEEVAL.CNT (R193). -/
def execPageevalCnt (modeSel modeAlt : Bool) (s : State) : Host.Outcome State Fault Refusal :=
  whenSelected "PAGEEVAL.CNT" (evaluating s) (.ok (applyCnt modeSel modeAlt s))

/-- PAGEEVAL.P1 (R194). -/
def execPageevalP1 (s : State) : Host.Outcome State Fault Refusal :=
  whenSelected "PAGEEVAL.P1" (evaluating s && guardP1 s) (.ok (applyP1 s))

/-- PAGEEVAL.P2 (R195). -/
def execPageevalP2 (s : State) : Host.Outcome State Fault Refusal :=
  whenSelected "PAGEEVAL.P2" (evaluating s && guardP2 s) (.ok (applyP2 s))

/-- PAGEEVAL.P3 (R196). -/
def execPageevalP3 (s : State) : Host.Outcome State Fault Refusal :=
  whenSelected "PAGEEVAL.P3" (evaluating s && guardP3 s) (.ok (applyP3 s))

/-- PAGEEVAL.P4 (R197). -/
def execPageevalP4 (s : State) : Host.Outcome State Fault Refusal :=
  whenSelected "PAGEEVAL.P4" (evaluating s && guardP4 s) (.ok (applyP4 s))

/-- PAGEEVAL.P5 (R198), where its guard holds: as first match it is dead in PAGEEVAL (R205; log entry 7). -/
def execPageevalP5 (modeSel modeAlt : Bool) (s : State) : Host.Outcome State Fault Refusal :=
  whenSelected "PAGEEVAL.P5" (evaluating s && guardP5 modeSel modeAlt s) (.ok (applyP5 s))

/-- PAGEEVAL.P6 (R199): no rule P1 to P5 matched and the updated counter is at its threshold. -/
def execPageevalP6 (modeSel modeAlt : Bool) (s : State) : Host.Outcome State Fault Refusal :=
  whenSelected "PAGEEVAL.P6" (evaluating s && decide (firstRule modeSel modeAlt s = .p6)) (.ok (applyP6 s))

/-- PAGEEVAL.NONE (R200): no rule P1 to P6 matched. -/
def execPageevalNone (modeSel modeAlt : Bool) (s : State) : Host.Outcome State Fault Refusal :=
  whenSelected "PAGEEVAL.NONE" (evaluating s && decide (firstRule modeSel modeAlt s = .none)) (.ok (applyNone s))

end Sys2Proof.Machine
end

