-- ==== Sys2Proof/Machine/MainCycle.lean ====
section
/-!
DEFINITION. The two whole-block events: TICK, one pass of the main cycle (R160), and RESET (R260).
-/

namespace Sys2Proof.Machine

/-- The whole TICK event (R160): TXSTEP, RXPOLL, PAGEEVAL, in this order. -/
def tickEvent (p : Config.Params) (inputs : TickInputs) (s : State) : Except Fault State :=
  (txstep p inputs.btn (clearOut s)).map fun s =>
    pageeval inputs.modeSel inputs.modeAlt inputs.initSeqDone (rxpoll p s)

/-- TICK under any parameters (R78, R160). -/
def tickWith (p : Config.Params) (inputs : TickInputs) (s : State) : Host.Outcome State Fault Refusal :=
  ending (tickEvent p inputs s)

/-- TICK (R160). -/
def execTick (inputs : TickInputs) (s : State) : Host.Outcome State Fault Refusal := tickWith Config.params inputs s

/-- RESET (R260): every item of state takes its reset value; what the environment sends next is not the block's. -/
def execReset (s : State) : Host.Outcome State Fault Refusal := .next { State.reset with stim := s.stim }

end Sys2Proof.Machine
end

