-- ==== Sys2Proof/Machine/LinkAssembler.lean ====
section
/-!
DEFINITION. LinkAssembler (41_link_assembler.md): the RXBYTE event and its four cases.
-/

namespace Sys2Proof.Machine

/-- The overflow guard's effect (R141): empty assembler, `rx_overflow`, `BufferOverflow`. -/
def overflowReset (s : State) : State := raiseError .bufferOverflow (emitRxOverflow (emptyAssembler s))

/-- What STORE does once the byte is in `ABUF` (R142). -/
def storeEffect (s : State) : State := emitRxOutcome .stored { s with cur := s.cur + 1 }

/-- What COMPLETE does once the byte is in `ABUF` (R143). -/
def completeEffect (s : State) : State :=
  emitRxOutcome .complete (emptyAssembler { s with flatch := Memory.ofBytes (assembled s), frdy := true })

/-- What DESYNC does once the byte is in `ABUF` (R144). -/
def desyncEffect (s : State) : State := emitRxOutcome .desync (raiseError .frameDesync (emptyAssembler s))

/-- `ABUF[CUR] <- b`, then the effect. -/
def storeThen (b : Byte) (effect : State → State) (s : State) : Except Fault State :=
  (writeAt .abuf (storeIndex s) b s).map effect

/-- The case test of RXBYTE, after the overflow guard (R140): the store index, then the marker. -/
def rxCase (b : Byte) (s : State) : Except Fault State :=
  if !atLastIndex s then storeThen b storeEffect s
  else if isMarker b then storeThen b completeEffect s
  else storeThen b desyncEffect s

/-- The whole RXBYTE event (R140). -/
def rxbyteEvent (b : Byte) (s : State) : Except Fault State :=
  rxCase b (if overflowing s then overflowReset (clearOut s) else clearOut s)

/-- A run of RXBYTE events, one per byte in order: `RXSEQ` (R107). DESIGN CHOICE (log entry 5): the spec gives such a run no
outcome of its own; `out` keeps the record of its last RXBYTE alone, so a `Complete`, a `Desync` or an error class of an
earlier byte is not seen in it. The records one by one are those of the RXBYTE events (`outcomes` in Safety.lean). -/
def rxSeq : List Byte → State → Except Fault State
  | [], s => .ok s
  | b :: bs, s => (rxbyteEvent b s).bind (rxSeq bs)

/-- RXBYTE (R140). -/
def execRxbyte (b : Byte) (s : State) : Host.Outcome State Fault Refusal := ending (rxbyteEvent b s)

/-- RXBYTE.OVERFLOW (R141): the guard fires, then the byte is stored at index 0 and the event goes on. -/
def execRxbyteOverflow (b : Byte) (s : State) : Host.Outcome State Fault Refusal :=
  whenSelected "RXBYTE.OVERFLOW" (overflowing s) (rxCase b (overflowReset (clearOut s)))

/-- RXBYTE.STORE (R142). DESIGN CHOICE (log entry 6): run by itself at `CUR ≥ CAP` it is refused; the event there empties
the assembler and then stores at index 0 (R140, R141), and the model gives both to RXBYTE.OVERFLOW. -/
def execRxbyteStore (b : Byte) (s : State) : Host.Outcome State Fault Refusal :=
  whenSelected "RXBYTE.STORE" (!overflowing s && !atLastIndex s) (storeThen b storeEffect (clearOut s))

/-- RXBYTE.COMPLETE (R143). -/
def execRxbyteComplete (b : Byte) (s : State) : Host.Outcome State Fault Refusal :=
  whenSelected "RXBYTE.COMPLETE" (atLastIndex s && isMarker b) (storeThen b completeEffect (clearOut s))

/-- RXBYTE.DESYNC (R144). -/
def execRxbyteDesync (b : Byte) (s : State) : Host.Outcome State Fault Refusal :=
  whenSelected "RXBYTE.DESYNC" (atLastIndex s && !isMarker b) (storeThen b desyncEffect (clearOut s))

end Sys2Proof.Machine
end

