-- ==== Sys2Proof/Machine/WireFrames.lean ====
section
/-!
DEFINITION. The two frame formats (R90 to R92) as stimuli: a whole frame on the line reaches the block as its bytes, one
RXBYTE each, offset 0 first (R64, R107).
-/

namespace Sys2Proof.Machine

/-- TELEMFRAME (R92): the incoming frame, consumed by RXBYTE byte by byte. -/
def execTelemframe (fields : Telem) (checksum : Byte) (s : State) : Host.Outcome State Fault Refusal :=
  ending (rxSeq (telemBytes fields checksum) s)

/-- CTRLFRAME (R91): the outgoing frame is produced by ENCODE and leaves by TXSTEP; as a stimulus it is a frame of this
layout that the line delivers to the receiver, an echo (R277; log entry 5). -/
def execCtrlframe (btn : Buttons) (checksum : Byte) (s : State) : Host.Outcome State Fault Refusal :=
  ending (rxSeq (ctrlBytes btn checksum) s)

end Sys2Proof.Machine
end

