-- ==== Sys2Proof/Machine/Dispatch.lean ====
section
/-!
DEFINITION. The dispatch: one arm per operation of opcode_table.json, each one call of its meaning.
-/

namespace Sys2Proof.Machine

def exec (i : Instr) (s : State) : Host.Outcome State Fault Refusal :=
  match i with
  | .ctrlframe btn checksum => Sys2Proof.Machine.execCtrlframe btn checksum s
  | .telemframe fields checksum => Sys2Proof.Machine.execTelemframe fields checksum s
  | .reset => Sys2Proof.Machine.execReset s
  | .rxbyte b => Sys2Proof.Machine.execRxbyte b s
  | .rxbyteOverflow b => Sys2Proof.Machine.execRxbyteOverflow b s
  | .rxbyteStore b => Sys2Proof.Machine.execRxbyteStore b s
  | .rxbyteComplete b => Sys2Proof.Machine.execRxbyteComplete b s
  | .rxbyteDesync b => Sys2Proof.Machine.execRxbyteDesync b s
  | .tick inputs => Sys2Proof.Machine.execTick inputs s
  | .txstep btn => Sys2Proof.Machine.execTxstep btn s
  | .txstepLoad btn => Sys2Proof.Machine.execTxstepLoad btn s
  | .txstepSend => Sys2Proof.Machine.execTxstepSend s
  | .txstepGap => Sys2Proof.Machine.execTxstepGap s
  | .rxpoll => Sys2Proof.Machine.execRxpoll s
  | .rxpollIdle => Sys2Proof.Machine.execRxpollIdle s
  | .rxpollValidate => Sys2Proof.Machine.execRxpollValidate s
  | .rxpollAccept => Sys2Proof.Machine.execRxpollAccept s
  | .rxpollReject => Sys2Proof.Machine.execRxpollReject s
  | .pageeval modeSel modeAlt initSeqDone => Sys2Proof.Machine.execPageeval modeSel modeAlt initSeqDone s
  | .pageevalP0 initSeqDone => Sys2Proof.Machine.execPageevalP0 initSeqDone s
  | .pageevalCnt modeSel modeAlt => Sys2Proof.Machine.execPageevalCnt modeSel modeAlt s
  | .pageevalP1 => Sys2Proof.Machine.execPageevalP1 s
  | .pageevalP2 => Sys2Proof.Machine.execPageevalP2 s
  | .pageevalP3 => Sys2Proof.Machine.execPageevalP3 s
  | .pageevalP4 => Sys2Proof.Machine.execPageevalP4 s
  | .pageevalP5 modeSel modeAlt => Sys2Proof.Machine.execPageevalP5 modeSel modeAlt s
  | .pageevalP6 modeSel modeAlt => Sys2Proof.Machine.execPageevalP6 modeSel modeAlt s
  | .pageevalNone modeSel modeAlt => Sys2Proof.Machine.execPageevalNone modeSel modeAlt s
  | .encode btn => Sys2Proof.Machine.execEncode btn s
  | .decode bytes => Sys2Proof.Machine.execDecode bytes s
  | .csum bytes => Sys2Proof.Machine.execCsum bytes s

end Sys2Proof.Machine
end

