-- ==== Sys2Proof/Machine/Fetch.lean ====
section
/-!
DEFINITION. Fetching: how the next stimulus word of the environment becomes an event (R8, R51, R97; log entry 3).
-/

namespace Sys2Proof.Machine

/-- The state with its stimuli replaced. -/
def setStim (stim : List (List Byte)) (s : State) : State := { s with stim := stim }

/-- The next event and the state it finds: the word taken from the stimuli, and the second event of the same clock, if
it has one, put back in front. `none` where nothing is to come; no instruction where no strobe is set. -/
def fetch (s : State) : Option (Except DecodeError (Option Instr × State)) :=
  match s.stim with
  | [] => none
  | w :: rest => some ((decodeStim w).map fun d => (d.first, setStim (d.later.toList ++ rest) s))

/-- One step over a way to run an operation: the next event of the environment, applied atomically (R8, R97). With no
stimulus to come, or no strobe in the clock, nothing happens (R97, `EV = 000`). -/
def stepBy (ex : Instr → State → Host.Outcome State Fault Refusal) (s : State) : Host.Outcome State Fault Refusal :=
  match fetch s with
  | none => .next s
  | some (.error e) => .refused (.badStimulus e)
  | some (.ok (none, s')) => .next s'
  | some (.ok (some i, s')) => ex i s'

/-- The state whose next stimulus word is this word of the opcode table. -/
def placeTableWord (nbits w : Nat) (s : State) : State := setStim (tableBytes nbits w :: s.stim) s

end Sys2Proof.Machine
end

