-- ==== Sys2Proof/Machine/Step.lean ====
section
/-!
DEFINITION. One step: the next event of the environment, applied atomically (R8, R97).
-/

namespace Sys2Proof.Machine

/-- One event, run by `exec` (R8, R97). -/
def step (s : State) : Host.Outcome State Fault Refusal := stepBy exec s

/-- The state whose next step fetches and runs this word of the opcode table. -/
def State.withFetchWord (s : State) (nbits w : Nat) : State := placeTableWord nbits w s

end Sys2Proof.Machine
end

