-- ==== Sys2Proof/Machine/Ports.lean ====
section
/-!
DEFINITION. The block seen from outside: the numeric codes of the enumerations (R99) and the level outputs (R50).
-/

namespace Sys2Proof.Machine

/-- The code of `PAGE` (R31). -/
def Page.code : Page → BitVec 2
  | .init => 0
  | .mode1 => 1
  | .leak => 2
  | .emergency => 3

/-- The code of `LINK_HEALTH` (R26); 3 is reserved. -/
def LinkHealth.code : LinkHealth → BitVec 2
  | .synced => 0
  | .timeout => 1
  | .frameError => 2

/-- The code of `rx_outcome` (R99). -/
def RxOutcome.code : RxOutcome → BitVec 2
  | .stored => 0
  | .complete => 1
  | .desync => 2

/-- The code of `rx_poll` (R99). -/
def RxPoll.code : RxPoll → BitVec 2
  | .idle => 0
  | .accepted => 1
  | .rejected => 2

/-- The code of `page_rule` (R99). -/
def PageRule.code : PageRule → BitVec 3
  | .p0 => 0
  | .p1 => 1
  | .p2 => 2
  | .p3 => 3
  | .p4 => 4
  | .p5 => 5
  | .p6 => 6
  | .none => 7

/-- The number of an error class, E1 to E5 (R230). -/
def ErrorClass.code : ErrorClass → Nat
  | .frameDesync => 1
  | .bufferOverflow => 2
  | .checksumMismatch => 3
  | .linkTimeout => 4
  | .decodeError => 5

/-- The code of `CSUM_POLICY` (R99). -/
def policyCode : Config.CsumPolicy → BitVec 1
  | .acceptAll => 0
  | .verifyReject => 1

/-- `TXCUR` as its 5-bit register (R30). -/
def txcurBits (s : State) : BitVec 5 := BitVec.ofNat 5 s.txcur.val

/-- `COMBO_CNT` as its 3-bit register (R33). -/
def comboBits (s : State) : BitVec 3 := BitVec.ofNat 3 s.comboCnt.val

/-- The level outputs (R50). -/
structure Levels where
  page : BitVec 2
  telem : Telem
  linkHealth : BitVec 2
  csumBad : Bool
  initCplt : Bool
  deriving DecidableEq, Repr

/-- What the level outputs show: reading them changes nothing (R71). -/
def levels (s : State) : Levels where
  page := s.page.code
  telem := s.telem
  linkHealth := s.linkHealth.code
  csumBad := s.csumBad
  initCplt := s.initCplt

end Sys2Proof.Machine
end

