-- ==== Sys2Proof/Machine/Parameters.lean ====
section
/-!
DEFINITION. The machine with its parameters as arguments (R78, U1, U2): the checksum function and the checksum policy are
taken by the step and by every operation that reads them. `exec` and `step` are these at the hardware's own parameters
(`Config.params`), which Laws/Parameters.lean proves.
-/

namespace Sys2Proof.Machine

/-- An operation under any parameters (R78): the nine operations that call the checksum or apply the policy take them; the
others read no parameter. -/
def execWith (p : Config.Params) (i : Instr) (s : State) : Host.Outcome State Fault Refusal :=
  match i with
  | .ctrlframe btn checksum => execCtrlframe btn checksum s
  | .telemframe fields checksum => execTelemframe fields checksum s
  | .reset => execReset s
  | .rxbyte b => execRxbyte b s
  | .rxbyteOverflow b => execRxbyteOverflow b s
  | .rxbyteStore b => execRxbyteStore b s
  | .rxbyteComplete b => execRxbyteComplete b s
  | .rxbyteDesync b => execRxbyteDesync b s
  | .tick inputs => tickWith p inputs s
  | .txstep btn => txstepWith p btn s
  | .txstepLoad btn => txstepLoadWith p btn s
  | .txstepSend => execTxstepSend s
  | .txstepGap => execTxstepGap s
  | .rxpoll => rxpollWith p s
  | .rxpollIdle => execRxpollIdle s
  | .rxpollValidate => rxpollValidateWith p s
  | .rxpollAccept => rxpollAcceptWith p s
  | .rxpollReject => rxpollRejectWith p s
  | .pageeval modeSel modeAlt initSeqDone => execPageeval modeSel modeAlt initSeqDone s
  | .pageevalP0 initSeqDone => execPageevalP0 initSeqDone s
  | .pageevalCnt modeSel modeAlt => execPageevalCnt modeSel modeAlt s
  | .pageevalP1 => execPageevalP1 s
  | .pageevalP2 => execPageevalP2 s
  | .pageevalP3 => execPageevalP3 s
  | .pageevalP4 => execPageevalP4 s
  | .pageevalP5 modeSel modeAlt => execPageevalP5 modeSel modeAlt s
  | .pageevalP6 modeSel modeAlt => execPageevalP6 modeSel modeAlt s
  | .pageevalNone modeSel modeAlt => execPageevalNone modeSel modeAlt s
  | .encode btn => encodeWith p btn s
  | .decode bytes => execDecode bytes s
  | .csum bytes => csumWith p bytes s

/-- One step under any parameters: they are arguments, constant over a run, and no state (R78). -/
def stepWith (p : Config.Params) (s : State) : Host.Outcome State Fault Refusal := stepBy (execWith p) s

end Sys2Proof.Machine
end

