-- ==== Sys2Proof/Safety.lean ====
section
/-!
DEFINITION. What claims about runs are stated with: sequences of operations and their outcome records (R8, R75), and the
invariants of rule R35 with the canonical form of the buffers.
-/

namespace Sys2Proof.Machine

/-! ### Runs -/

/-- Operations one after the other, over a way to run an operation, up to the first fault or refusal. -/
def runBy (ex : Instr → State → Host.Outcome State Fault Refusal) :
    List Instr → State → Host.Outcome State Fault Refusal
  | [], s => .next s
  | i :: is, s =>
    match ex i s with
    | .next t => runBy ex is t
    | .fault f => .fault f
    | .refused r => .refused r

/-- A run of the hardware. -/
def run (is : List Instr) (s : State) : Host.Outcome State Fault Refusal := runBy exec is s

/-- A run under any parameters, the same in every step of it (R78). -/
def runWith (p : Config.Params) (is : List Instr) (s : State) : Host.Outcome State Fault Refusal :=
  runBy (execWith p) is s

/-- The outcome records of a run of events (R50), in order. -/
def outcomes : List Instr → State → List Outputs
  | [], _ => []
  | i :: is, s =>
    match exec i s with
    | .next t => t.out :: outcomes is t
    | .fault _ => []
    | .refused _ => []

/-- The bytes a run of events hands to the transmit primitive (R50, R64). -/
def sentBytes (is : List Instr) (s : State) : List Byte :=
  (outcomes is s).filterMap fun o => if o.txValid then some o.txData else none

/-- How many frames a run of events completed (R143). -/
def completions (is : List Instr) (s : State) : Nat :=
  (outcomes is s).countP fun o => decide (o.rxOutcome = some .complete)

/-- How many frames a run of events accepted or rejected (R173, R174). -/
def consumptions (is : List Instr) (s : State) : Nat :=
  (outcomes is s).countP fun o => decide (o.rxPoll ≠ .idle)

/-- An operation of context A (R7). -/
def isRxbyte : Instr → Bool
  | .rxbyte _ => true
  | _ => false

/-- The inputs of an operation of context M (R7). -/
def tickInputs? : Instr → Option TickInputs
  | .tick inputs => some inputs
  | _ => none

/-- A run of the two contexts in some interleaving, without RESET (R8, R75). -/
def isInterleaving (is : List Instr) : Bool := is.all fun i => isRxbyte i || (tickInputs? i).isSome

/-! ### Invariants -/

/-- The canonical form of the three buffers, each within its size (R60). -/
structure BuffersWf (s : State) : Prop where
  abuf : s.abuf.wf = true
  abufSize : s.abuf.within Space.abuf.size = true
  flatch : s.flatch.wf = true
  flatchSize : s.flatch.within Space.flatch.size = true
  txbuf : s.txbuf.wf = true
  txbufSize : s.txbuf.within Space.txbuf.size = true

/-- The invariants of rule R35; (iv) and (v) hold by the types of `txcur` and `comboCnt`. -/
structure Inv (s : State) : Prop where
  /-- (i) -/
  curRange : s.cur.toNat ≤ 38
  /-- (ii) -/
  abufTail : ∀ i, s.cur.toNat ≤ i → s.abuf.read i = 0x00
  /-- (iii) -/
  latchMarker : s.frdy = true → s.flatch.read 38 = 0x17
  /-- (vi) -/
  initFlag : s.initCplt = false ↔ s.page = .init
  /-- (vii) -/
  initCount : s.page = .init → s.comboCnt = 0
  /-- (viii) -/
  health : s.linkHealth = .synced ∨ s.linkHealth = .frameError
  /-- (ix), the marker -/
  txMarker : s.txcur ≠ 0 → s.txbuf.read 9 = 0x17
  /-- (ix), the checksum -/
  txChecksum : s.txcur ≠ 0 → s.txbuf.read 10 = Config.csum (s.txbuf.bytes 0 10)
  /-- (ix), the flags -/
  txFlags : s.txcur ≠ 0 → ∀ i, i < 9 → s.txbuf.read i = 0x00 ∨ s.txbuf.read i = 0x01

/-- The block without what it shows of the latest event and what the environment sends next: the twelve items (R20). -/
def block (s : State) : State := { s with out := Outputs.idle, stim := [] }

end Sys2Proof.Machine
end

