-- ==== Sys2Proof/Certificates/Slice0/Obligations.lean ====
section
/-!
DEFINITION. The statements about the model, from the numbered rules of spec/. Each docstring names the rule, or says what
the statement rests on beside it.
-/

open Sys2Proof Sys2Proof.Machine

/-! ### Words the statements share -/

namespace Sys2Proof.Claims

/-- `zext_8(flag)` (R94). -/
def flagVal (f : Bool) : Byte := if f then 0x01 else 0x00

/-- The ten bytes before a ControlFrame's checksum (R91). -/
def flagsAndMarker (btn : Buttons) : List Byte :=
  [flagVal btn.halfGas, flagVal btn.fullGas, flagVal btn.horn, flagVal btn.speedReset, flagVal btn.powerSupply,
    flagVal btn.scClose, flagVal btn.fuelcellOff, flagVal btn.fuelcellPrepareToRace, flagVal btn.fuelcellRace, 0x17]

/-- The eleven bytes ENCODE gives (R121). -/
def controlFrame (btn : Buttons) : List Byte := flagsAndMarker btn ++ [Config.csum (flagsAndMarker btn)]

/-- "Leak sensor asserted" (R191). -/
abbrev LeakSeen (s : State) : Prop := s.telem.h2Leak ≠ 0x00

/-- "Emergency button asserted" (R191). -/
abbrev EmergSeen (s : State) : Prop := s.telem.emergency ≠ 0x00

/-- The states in which P6 and NONE are not selected whatever the counter is: `Init` is held, or one of P1 to P4
matches (R192, R194 to R197). -/
abbrev higherRuleOrInit (s : State) : Prop :=
  s.page = .init ∨ s.page = .leak ∨ LeakSeen s ∨ (s.page = .mode1 ∧ EmergSeen s) ∨
    (s.page = .emergency ∧ ¬EmergSeen s)

/-- The outputs of a page evaluation on top of those emitted before it (R50, R202). -/
def pageOutputs (r : PageRule) (changed ri : Bool) (o : Outputs) : Outputs :=
  { o with pageRule := r, pageChanged := changed, plClear := changed, reinit := ri }

/-- The debounce counter after an evaluation outside `Init` (R193). -/
def countAfter (sel alt : Bool) (c : Fin 6) : Fin 6 :=
  if sel = true ∧ alt = true then ⟨min (c.val + 1) 5, by omega⟩ else 0

/-- The sixteen fields at the offsets of R92, each with its lowest byte first (R66, R93). -/
def fieldsOf (F : List Byte) : Telem where
  instSpeed := byteAt F 0
  avgSpeed := byteAt F 1
  lapMin := byteAt F 3 ++ byteAt F 2
  lapSec := byteAt F 4
  lapMs := byteAt F 6 ++ byteAt F 5
  fcVoltage := byteAt F 10 ++ byteAt F 9 ++ byteAt F 8 ++ byteAt F 7
  fcTemp := byteAt F 14 ++ byteAt F 13 ++ byteAt F 12 ++ byteAt F 11
  fcFanRpm := byteAt F 16 ++ byteAt F 15
  curFcSc := byteAt F 20 ++ byteAt F 19 ++ byteAt F 18 ++ byteAt F 17
  curScMotor := byteAt F 24 ++ byteAt F 23 ++ byteAt F 22 ++ byteAt F 21
  pwmFcSc := byteAt F 25
  pwmMotor := byteAt F 26
  scVoltage := byteAt F 30 ++ byteAt F 29 ++ byteAt F 28 ++ byteAt F 27
  h2Voltage := byteAt F 34 ++ byteAt F 33 ++ byteAt F 32 ++ byteAt F 31
  h2Leak := byteAt F 35
  emergency := byteAt F 36

/-- The word of this instruction decodes to that one. -/
def decodesTo (i j : Instr) : Prop := decode (encode i) = .ok j

/-- The TICK with these buttons and no other input. -/
def tickButtons (btn : Buttons) : Instr := .tick { TickInputs.none with btn := btn }

/-- The TICK with these three inputs and no button. -/
def tickModes (sel alt done : Bool) : Instr :=
  .tick { TickInputs.none with modeSel := sel, modeAlt := alt, initSeqDone := done }

/-- The environment's next event is RESET. -/
def nextIsReset (s : State) : Prop := ∃ s', fetch s = some (.ok (some .reset, s'))

/-- RXSEQ: one RXBYTE per byte (R107). -/
def rxOps (bs : List Byte) : List Instr := bs.map Instr.rxbyte

/-- The rows of R206's table: from, to, rule, and the condition. -/
def transitionRow (src dst : Page) (r : PageRule) (leak emerg done : Prop) (count : Nat) : Prop :=
  (src = .init ∧ dst = .leak ∧ r = .p0 ∧ done ∧ leak) ∨
  (src = .init ∧ dst = .emergency ∧ r = .p0 ∧ done ∧ ¬leak ∧ emerg) ∨
  (src = .init ∧ dst = .mode1 ∧ r = .p0 ∧ done ∧ ¬leak ∧ ¬emerg) ∨
  (src = .mode1 ∧ dst = .leak ∧ r = .p1 ∧ leak) ∨
  (src = .emergency ∧ dst = .leak ∧ r = .p1 ∧ leak) ∨
  (src = .leak ∧ dst = .mode1 ∧ r = .p2 ∧ ¬leak ∧ ¬emerg) ∨
  (src = .mode1 ∧ dst = .emergency ∧ r = .p3 ∧ ¬leak ∧ emerg) ∨
  (src = .leak ∧ dst = .emergency ∧ r = .p3 ∧ ¬leak ∧ emerg) ∨
  (src = .emergency ∧ dst = .mode1 ∧ r = .p4 ∧ ¬leak ∧ ¬emerg) ∨
  (src = .mode1 ∧ dst = .init ∧ r = .p6 ∧ ¬leak ∧ ¬emerg ∧ count = 5) ∨
  (src = .emergency ∧ dst = .init ∧ r = .p6 ∧ ¬leak ∧ emerg ∧ count = 5)

end Sys2Proof.Claims

open Sys2Proof.Claims

/-! ### FrameCodec -/

/-- R120: CSUM returns the byte of the open parameter; it changes no item of state. That a function run by itself returns
its result in the outcome record is the model's choice (log entry 4). -/
def Obligations.CsumReturnsTheParameter : Prop :=
  ∀ (bytes : List Byte) (s : State),
    exec (.csum bytes) s = .next { s with out := { Outputs.idle with result := .byte (Config.csum bytes) } }

/-- R121: ENCODE gives the nine flag bytes in order, the marker, and the checksum of those ten; no item of state
changes. Where the result is returned is the model's choice (log entry 4). -/
def Obligations.EncodeLaysOutTheControlFrame : Prop :=
  ∀ (btn : Buttons) (s : State),
    exec (.encode btn) s = .next { s with out := { Outputs.idle with result := .frame (controlFrame btn) } }

/-- R122: DECODE reads each field little-endian at its offset, and no item of state changes. Where the result is returned
is the model's choice (log entry 4). -/
def Obligations.DecodeReadsSixteenFields : Prop :=
  ∀ (F : List Byte) (s : State), F.length = 39 →
    exec (.decode F) s = .next { s with out := { Outputs.idle with result := .fields (fieldsOf F) } }

/-- R123, U4: a list of any other length is refused by name; it is neither padded nor truncated. -/
def Obligations.DecodeRefusesOtherLengths : Prop :=
  ∀ (F : List Byte) (s : State), F.length ≠ 39 → exec (.decode F) s = .refused (.decodeLength F.length)

/-- R124: DECODE inverts the sender's encoding of every field value, whatever the checksum byte; it is injective on the
first 37 bytes and ignores the last two. Where the result is returned is the model's choice (log entry 4). -/
def Obligations.DecodeInvertsTheSender : Prop :=
  (∀ (t : Telem) (s : State),
    exec (.decode (telemPayload t ++ [Config.csum (telemPayload t), 0x17])) s =
      .next { s with out := { Outputs.idle with result := .fields t } }) ∧
  (∀ (F G : List Byte), F.length = 39 → G.length = 39 →
    (telemOfBytes F = telemOfBytes G ↔ F.take 37 = G.take 37))

/-! ### Encodings -/

/-- R90 to R92, R97, R106 for the frames and the events: the word of each decodes to it, with every operand and nothing else in
the same clock. For the cases, the micro-operations and CSUM, ENCODE, DECODE the rule is R98 as the model reads it (log
entry 11): their word is their event's, with the inputs they do not name at 0. The packing of the words is the model's
choice (log entry 9). -/
def Obligations.EncodedWordsDecodeToTheirEvent : Prop :=
  (∀ i : Instr, WellFormed i = true →
    decodeStim (encode i) = .ok ⟨some (eventOf i).instr, none⟩ ∧
    (∀ btn c, i = .ctrlframe btn c → decode (encode i) = .ok i) ∧
    (∀ t c, i = .telemframe t c → decode (encode i) = .ok i) ∧
    (i = .reset → decode (encode i) = .ok i) ∧
    (∀ b, i = .rxbyte b → decode (encode i) = .ok i) ∧
    (∀ inputs, i = .tick inputs → decode (encode i) = .ok i)) ∧
  (∀ b, decodesTo (.rxbyteOverflow b) (.rxbyte b) ∧ decodesTo (.rxbyteStore b) (.rxbyte b) ∧
    decodesTo (.rxbyteComplete b) (.rxbyte b) ∧ decodesTo (.rxbyteDesync b) (.rxbyte b)) ∧
  (∀ btn, decodesTo (.txstep btn) (tickButtons btn) ∧ decodesTo (.txstepLoad btn) (tickButtons btn) ∧
    decodesTo (.encode btn) (tickButtons btn)) ∧
  (∀ i ∈ [Instr.txstepSend, .txstepGap, .rxpoll, .rxpollIdle, .rxpollValidate, .rxpollAccept, .rxpollReject,
    .pageevalP1, .pageevalP2, .pageevalP3, .pageevalP4], decodesTo i (.tick .none)) ∧
  (∀ bytes, decodesTo (.decode bytes) (.tick .none) ∧ decodesTo (.csum bytes) (.tick .none)) ∧
  (∀ sel alt done, decodesTo (.pageeval sel alt done) (tickModes sel alt done) ∧
    decodesTo (.pageevalP0 done) (tickModes false false done) ∧
    decodesTo (.pageevalCnt sel alt) (tickModes sel alt false) ∧
    decodesTo (.pageevalP5 sel alt) (tickModes sel alt false) ∧
    decodesTo (.pageevalP6 sel alt) (tickModes sel alt false) ∧
    decodesTo (.pageevalNone sel alt) (tickModes sel alt false))

/-- Words written out from the encodings of R91, R92, R97 and R106 decode to what they stand for, and words outside them,
a wrong marker and a wrong flag byte among them, are refused by name. The TelemetryFrame is that of program A in
95_test_vectors.md. The packing of an event word is the model's choice (log entry 9). -/
def Obligations.WrittenOutWordsDecode : Prop :=
  decodeTableWord 8 0b100 = some .reset ∧
  decodeTableWord 8 0b001 = some (.rxbyte 0x00) ∧
  decodeTableWord 8 0b010 = some (.tick TickInputs.none) ∧
  decodeTableWord 8 0b000 = none ∧
  decode [0b001, 0x41, 0x00, 0x00] = .ok (.rxbyte 0x41) ∧
  decode [0b010, 0x00, 0x19, 0x06] = .ok (.tick
    ⟨⟨true, false, false, true, true, false, false, false, false⟩, true, true, false⟩) ∧
  decode [0b010, 0x00, 0x00, 0x08] = .ok (.tick { TickInputs.none with initSeqDone := true }) ∧
  decodeTableWord 88 0x7517000000000101000001 = some (.ctrlframe
    ⟨true, false, false, true, true, false, false, false, false⟩ 0x75) ∧
  decode [0x01, 0x00, 0x00, 0x01, 0x01, 0x00, 0x00, 0x00, 0x02, 0x17, 0x75] = .error (.flagByte 8) ∧
  decode [0x01, 0x00, 0x00, 0x01, 0x01, 0x00, 0x00, 0x00, 0x00, 0x16, 0x75] = .error .marker ∧
  decode [0x2A, 0x25, 0x01, 0x00, 0x17, 0xC8, 0x01, 0x00, 0x00, 0x34, 0x42, 0x00, 0x00, 0x00, 0x00, 0xB8, 0x0B, 0x00,
    0x00, 0x00, 0x00, 0x00, 0x00, 0x00, 0x00, 0x00, 0x50, 0x00, 0x00, 0x00, 0x00, 0x00, 0x00, 0x00, 0x00, 0x00, 0x00,
    0xF2, 0x17] =
    .ok (.telemframe ⟨0x2A, 0x25, 0x0001, 0x17, 0x01C8, 0x42340000, 0, 0x0BB8, 0, 0, 0, 0x50, 0, 0, 0, 0⟩ 0xF2) ∧
  decode (List.replicate 38 0x17 ++ [0x16]) = .error .marker ∧
  decodeStim [0b1000, 0x00, 0x00, 0x00] = .error (.evBits 0b1000) ∧
  decodeStim [0b010, 0x00, 0x00, 0x10] = .error (.inputBits 0x10) ∧
  decodeStim [0x00, 0x00] = .error (.badLength 2)

/-- R51, R97: a step runs the instruction the next stimulus word decodes to, as `exec` of it on the state from which that word
was taken; where the clock has a second event its word stands in front again. The stimulus queue is the model's own
(log entry 3). R78: the same of a step that takes the parameters as arguments. -/
def Obligations.StepRunsTheDecodedInstruction : Prop :=
  ∀ (s : State) (w : List Byte) (rest : List (List Byte)) (i : Instr) (later : Option (List Byte)),
    s.stim = w :: rest → decodeStim w = .ok ⟨some i, later⟩ →
      step s = exec i { s with stim := later.toList ++ rest } ∧
      ∀ p : Config.Params, stepWith p s = execWith p i { s with stim := later.toList ++ rest }

/-- R97's table, row by row: `1xx` performs RESET only, `001` RXBYTE, `010` TICK, `011` RXBYTE and then TICK with the
same clock's inputs, `000` nothing; nothing to come is `000` (log entry 3). -/
def Obligations.ClockPerformsItsEvents : Prop :=
  ∀ (s : State) (data lo hi : Byte) (rest : List (List Byte)), hi.toNat < 16 →
    (∀ ev : Byte, 4 ≤ ev.toNat → ev.toNat < 8 → s.stim = [ev, data, lo, hi] :: rest →
      step s = exec .reset { s with stim := rest }) ∧
    (s.stim = [0b001, data, lo, hi] :: rest → step s = exec (.rxbyte data) { s with stim := rest }) ∧
    (s.stim = [0b010, data, lo, hi] :: rest →
      step s = exec (.tick (TickInputs.ofBits ((hi ++ lo).setWidth 12))) { s with stim := rest }) ∧
    (s.stim = [0b011, data, lo, hi] :: rest →
      ∃ t u, step s = .next t ∧ exec (.rxbyte data) { s with stim := rest } = .next u ∧
        t = { u with stim := [0b010, data, lo, hi] :: rest } ∧
        step t = exec (.tick (TickInputs.ofBits ((hi ++ lo).setWidth 12))) u) ∧
    (s.stim = [0b000, data, lo, hi] :: rest → step s = .next { s with stim := rest }) ∧
    (s.stim = [] → step s = .next s)

/-! ### Frames on the line -/

/-- R92, R107, R147, R150: a TelemetryFrame stands for its 39 RXBYTE events in every state (log entry 5, the model's reading of
the row). At an aligned assembler it is latched whole, whatever its checksum byte, and nothing else of the block
changes. From any cursor in its range the assembler stays as far out of line as it was, and a frame becomes pending
exactly if the byte that falls on index 38 is the marker. -/
def Obligations.TelemetryFrameIsLatchedWhole : Prop :=
  ∀ (t : Telem) (c : Byte) (s : State),
    exec (.telemframe t c) s = run (rxOps (telemPayload t ++ [c, 0x17])) s ∧
    (s.cur = 0 → exec (.telemframe t c) s = .next { s with
      abuf := [], cur := 0, flatch := Memory.ofBytes (telemPayload t ++ [c, 0x17]), frdy := true,
      out := { Outputs.idle with rxOutcome := some .complete } }) ∧
    (s.cur.toNat ≤ 38 → ∃ u, exec (.telemframe t c) s = .next u ∧ u.cur = s.cur ∧
      (u.frdy = true ↔ s.frdy = true ∨ byteAt (telemPayload t ++ [c, 0x17]) (38 - s.cur.toNat) = 0x17))

/-- R91, R107, R277: a ControlFrame that the line delivers is eleven RXBYTE events; with room before the end of the window
they are stored one after the other and nothing else of the block changes (log entry 5 is the model's reading of the
row CTRLFRAME). -/
def Obligations.DeliveredControlFrameIsElevenBytes : Prop :=
  ∀ (btn : Buttons) (c : Byte) (s : State),
    exec (.ctrlframe btn c) s = run (rxOps (flagsAndMarker btn ++ [c])) s ∧
    (s.cur.toNat ≤ 27 → ∃ t, exec (.ctrlframe btn c) s = .next t ∧
      t = { s with abuf := t.abuf, cur := s.cur + 11, out := { Outputs.idle with rxOutcome := some .stored } } ∧
      ∀ i, t.abuf.read i = if s.cur.toNat ≤ i ∧ i < s.cur.toNat + 11
        then byteAt (flagsAndMarker btn ++ [c]) (i - s.cur.toNat) else s.abuf.read i)

/-! ### RESET -/

/-- R55, R260: RESET gives every item of state its reset value whatever the state was, and every output is idle. The
stimuli to come are the model's own field, and nothing is said of them. -/
def Obligations.ResetRestoresEveryItem : Prop :=
  ∀ s : State, ∃ t, exec .reset s = .next t ∧
    t = {
      abuf := [], cur := 0, flatch := [], frdy := false, csumBad := false, linkHealth := .synced,
      telem := ⟨0, 0, 0, 0, 0, 0, 0, 0, 0, 0, 0, 0, 0, 0, 0, 0⟩, txbuf := [], txcur := 0, page := .init,
      initCplt := false, comboCnt := 0,
      out := ⟨none, false, false, 0x00, .idle, .none, false, false, false, [], .none⟩, stim := t.stim } ∧
    ∀ i, t.abuf.read i = 0x00 ∧ t.flatch.read i = 0x00 ∧ t.txbuf.read i = 0x00

/-! ### RXBYTE -/

/-- R141: at a cursor of 39 or more the assembler is emptied, `rx_overflow` and `BufferOverflow` are recorded, and the byte is
stored at index 0. -/
def Obligations.OverflowGuardRestartsTheWindow : Prop :=
  ∀ (s : State) (b : Byte), 39 ≤ s.cur.toNat → ∃ t,
    exec (.rxbyte b) s = .next t ∧ exec (.rxbyteOverflow b) s = .next t ∧
    t = { s with abuf := t.abuf, cur := 1, out := { Outputs.idle with
      rxOutcome := some .stored, rxOverflow := true, raised := [.bufferOverflow] } } ∧
    ∀ i, t.abuf.read i = if i = 0 then b else 0x00

/-- R142: before index 38 the byte is stored at the cursor, whatever its value, and the cursor advances; nothing else
changes. -/
def Obligations.StoreKeepsCollecting : Prop :=
  ∀ (s : State) (b : Byte), s.cur.toNat < 38 → ∃ t,
    exec (.rxbyte b) s = .next t ∧ exec (.rxbyteStore b) s = .next t ∧
    t = { s with abuf := t.abuf, cur := s.cur + 1, out := { Outputs.idle with rxOutcome := some .stored } } ∧
    t.cur.toNat = s.cur.toNat + 1 ∧
    ∀ i, t.abuf.read i = if i = s.cur.toNat then b else s.abuf.read i

/-- R143: at index 38 the marker completes the window: the 38 bytes collected and the marker are latched, `FRDY` is set
whatever it was, and the assembler is empty; nothing else changes. -/
def Obligations.MarkerCompletesTheFrame : Prop :=
  ∀ s : State, s.cur.toNat = 38 → ∃ t,
    exec (.rxbyte 0x17) s = .next t ∧ exec (.rxbyteComplete 0x17) s = .next t ∧
    t = { s with
      abuf := [], cur := 0, flatch := t.flatch, frdy := true,
      out := { Outputs.idle with rxOutcome := some .complete } } ∧
    ∀ i, t.flatch.read i = if i < 38 then s.abuf.read i else if i = 38 then 0x17 else 0x00

/-- R144: at index 38 any other byte discards the whole window: the assembler is empty, `FrameDesync` is recorded, and the
latch and everything else are unchanged. -/
def Obligations.OtherByteDiscardsTheWindow : Prop :=
  ∀ (s : State) (b : Byte), s.cur.toNat = 38 → b ≠ 0x17 →
    exec (.rxbyte b) s = .next { s with
      abuf := [], cur := 0,
      out := { Outputs.idle with rxOutcome := some .desync, raised := [.frameDesync] } } ∧
    exec (.rxbyteDesync b) s = exec (.rxbyte b) s

/-- R146: from `CUR = 0`, after `k ≤ 38` bytes of any value the assembler is in `Collecting(k)`, the last outcome was
`Stored` (for every such `k`, hence every outcome), and the bytes stand in order; nothing else changed. -/
def Obligations.CollectingAnyBytes : Prop :=
  ∀ (s : State) (bs : List Byte), s.cur = 0 → bs.length ≤ 38 → ∃ t,
    run (rxOps bs) s = .next t ∧ t = { s with abuf := t.abuf, cur := t.cur, out := t.out } ∧
    t.cur.toNat = bs.length ∧ (bs ≠ [] → t.out.rxOutcome = some .stored) ∧
    ∀ i, i < bs.length → t.abuf.read i = byteAt bs i

/-- R147, R148: from `CUR = 0`, 38 bytes and a last one. If the last is the marker: `Stored` 38 times, then one `Complete`,
with exactly these 39 bytes latched. If it is not: `Stored` 38 times, then `Desync`, no `Complete`, the assembler empty,
the latch and its flag unchanged. -/
def Obligations.FullWindowCompletesByItsMarkerAlone : Prop :=
  ∀ (s : State) (bs : List Byte), s.cur = 0 → bs.length = 38 →
    (∃ t, run (rxOps (bs ++ [0x17])) s = .next t ∧ t.cur = 0 ∧ t.frdy = true ∧
      t.flatch.bytes 0 39 = bs ++ [0x17] ∧ t.out.rxOutcome = some .complete ∧
      completions (rxOps (bs ++ [0x17])) s = 1 ∧
      (outcomes (rxOps (bs ++ [0x17])) s).map Outputs.rxOutcome =
        List.replicate 38 (some .stored) ++ [some .complete]) ∧
    ∀ b : Byte, b ≠ 0x17 → ∃ t,
      run (rxOps (bs ++ [b])) s = .next t ∧ t.cur = 0 ∧ t.abuf = [] ∧ t.frdy = s.frdy ∧ t.flatch = s.flatch ∧
      completions (rxOps (bs ++ [b])) s = 0 ∧
      (outcomes (rxOps (bs ++ [b])) s).map Outputs.rxOutcome =
        List.replicate 38 (some .stored) ++ [some .desync]

/-- R149, R150: only the count of bytes moves a window: from a cursor within its range, after any bytes it stands at their
number modulo 39, and wherever that is 0 the last outcome is `Complete` if the last byte is the marker and `Desync`
if it is not, and elsewhere it is `Stored`. -/
def Obligations.WindowsAreCutByCountAlone : Prop :=
  ∀ (s : State) (bs : List Byte) (b : Byte), s.cur.toNat ≤ 38 → ∃ t,
    run (rxOps (bs ++ [b])) s = .next t ∧ t.cur.toNat = (s.cur.toNat + bs.length + 1) % 39 ∧
    t.out.rxOverflow = false ∧
    t.out.rxOutcome = some (if t.cur = 0 then (if b = 0x17 then .complete else .desync) else .stored)

/-- R150 (a): an aligned assembler completes every intact frame of a back-to-back stream and stays aligned; the last one is
latched. -/
def Obligations.AlignedFramesAllComplete : Prop :=
  ∀ (s : State) (frames : List (List Byte)), s.cur = 0 → (∀ F ∈ frames, F.length = 39 ∧ byteAt F 38 = 0x17) → ∃ t,
    run (rxOps frames.flatten) s = .next t ∧ t.cur = 0 ∧
    completions (rxOps frames.flatten) s = frames.length ∧
    ∀ F, frames.getLast? = some F → t.frdy = true ∧ t.flatch.bytes 0 39 = F

/-! ### TXSTEP -/

/-- R162: at `TXCUR = 0` the frame is encoded from this cycle's buttons and its byte 0 is sent in the same cycle; nothing else
changes. -/
def Obligations.LoadEncodesAndSendsByteZero : Prop :=
  ∀ (s : State) (btn : Buttons), s.txcur = 0 → ∃ t,
    exec (.txstep btn) s = .next t ∧ exec (.txstepLoad btn) s = .next t ∧
    t = { s with
      txbuf := Memory.ofBytes (controlFrame btn), txcur := 1,
      out := { s.out with txValid := true, txData := flagVal btn.halfGas } } ∧
    t.txbuf.bytes 0 11 = controlFrame btn

/-- R163: at `TXCUR < 11`, after any LOAD, the byte at `TXCUR` is handed over and `TXCUR` advances without wrapping; the frame
and everything else are unchanged. That the row SEND run by itself at `TXCUR = 0` sends the byte already in `TXBUF`, with
no LOAD before it, is the model's choice (log entry 6). -/
def Obligations.SendHandsOverOneByte : Prop :=
  ∀ (s : State) (btn : Buttons), s.txcur.val < 11 → ∃ t,
    exec .txstepSend s = .next t ∧ (s.txcur ≠ 0 → exec (.txstep btn) s = .next t) ∧
    t = { s with
      txcur := t.txcur,
      out := { s.out with txValid := true, txData := s.txbuf.read s.txcur.val } } ∧
    t.txcur.val = s.txcur.val + 1

/-- R164: at `11 ≤ TXCUR ≤ 21` nothing is handed over, and `TXCUR` advances, from 21 to 0; everything else is unchanged. -/
def Obligations.GapHandsOverNothing : Prop :=
  ∀ (s : State) (btn : Buttons), 11 ≤ s.txcur.val → ∃ t,
    exec .txstepGap s = .next t ∧ exec (.txstep btn) s = .next t ∧
    t = { s with txcur := t.txcur, out := { s.out with txValid := false, txData := 0x00 } } ∧
    t.txcur.val = if s.txcur.val = 21 then 0 else s.txcur.val + 1

/-- R165 (a), (b): over 22 consecutive TICKs from `TXCUR = 0`, with RXBYTEs anywhere between them, the bytes handed over are
exactly the frame encoded from the buttons at the first TICK: the inputs at the other 21 have no effect on it. -/
def Obligations.OneFramePerTransmitPeriod : Prop :=
  ∀ (s : State) (is : List Instr) (first : TickInputs) (others : List TickInputs), s.txcur = 0 →
    isInterleaving is = true → is.filterMap tickInputs? = first :: others → others.length = 21 →
      sentBytes is s = controlFrame first.btn ∧ ∃ t, run is s = .next t ∧ t.txcur = 0

/-! ### RXPOLL -/

/-- R171: with no frame pending RXPOLL has no effect but `rx_poll = Idle`. -/
def Obligations.PollWithoutFrameIsIdle : Prop :=
  ∀ s : State, s.frdy = false →
    exec .rxpoll s = .next { s with out := { s.out with rxPoll := .idle } } ∧
    exec .rxpollIdle s = .next { s with out := { s.out with rxPoll := .idle } }

/-- R172, R173 for a right checksum: all sixteen fields are replaced together, `LINK_HEALTH` is `Synced`, `CSUM_BAD` and `FRDY`
are cleared, and nothing else changes. -/
def Obligations.RightChecksumIsAccepted : Prop :=
  ∀ s : State, s.frdy = true → Config.csum (s.flatch.bytes 0 37) = s.flatch.read 37 →
    exec .rxpollAccept s = .next { s with
      telem := telemOfBytes (s.flatch.bytes 0 39), linkHealth := .synced,
      csumBad := false, frdy := false, out := { s.out with rxPoll := .accepted } } ∧
    exec .rxpollValidate s = exec .rxpollAccept s ∧ exec .rxpoll s = exec .rxpollAccept s

/-- R174, with the policy this hardware has (R175; log entry 2): on a wrong checksum the frame is dropped, `TELEM` is unchanged,
`LINK_HEALTH` is `FrameError`, `CSUM_BAD` is set and `FRDY` cleared, `ChecksumMismatch` is recorded; nothing else
changes. -/
def Obligations.WrongChecksumIsRejected : Prop :=
  ∀ s : State, s.frdy = true → Config.csum (s.flatch.bytes 0 37) ≠ s.flatch.read 37 →
    exec .rxpollReject s = .next { s with
      linkHealth := .frameError, csumBad := true, frdy := false,
      out := { s.out with rxPoll := .rejected, raised := s.out.raised ++ [.checksumMismatch] } } ∧
    exec .rxpollValidate s = exec .rxpollReject s ∧ exec .rxpoll s = exec .rxpollReject s

/-- R170 to R174 for every checksum function and both policies: without a frame nothing happens; the comparison always sets
`CSUM_BAD`, a mismatch is always recorded, only `VerifyReject` drops the frame, and `AcceptAll` accepts it. -/
def Obligations.PollUnderEitherPolicy : Prop :=
  ∀ (p : Config.Params) (s : State),
    execWith p .rxpoll s = .next (rxpoll p s) ∧
    (s.frdy = true →
      let bad : Bool := decide (p.csum (s.flatch.bytes 0 37) ≠ s.flatch.read 37)
      let raised := s.out.raised ++ (if bad then [ErrorClass.checksumMismatch] else [])
      rxpoll p s = if bad = true ∧ p.policy = .verifyReject
        then { s with
          linkHealth := .frameError, csumBad := bad, frdy := false,
          out := { s.out with rxPoll := .rejected, raised := raised } }
        else { s with
          telem := telemOfBytes (s.flatch.bytes 0 39), linkHealth := .synced, csumBad := bad,
          frdy := false, out := { s.out with rxPoll := .accepted, raised := raised } }) ∧
    (s.frdy = false → rxpoll p s = { s with out := { s.out with rxPoll := .idle } })

/-- R176 (a): a pending frame is answered at the next TICK, however many bytes come before it, by `Accepted` or `Rejected`, and
the TICK after that, with no further completion, is `Idle`. -/
def Obligations.PendingFrameIsConsumedOnce : Prop :=
  ∀ (s : State) (bs : List Byte) (inputs inputs' : TickInputs), s.frdy = true → ∃ t u,
    run (rxOps bs ++ [.tick inputs]) s = .next t ∧ t.frdy = false ∧
    (t.out.rxPoll = .accepted ∨ t.out.rxPoll = .rejected) ∧
    exec (.tick inputs') t = .next u ∧ u.out.rxPoll = .idle

/-- R176 (b): over any interleaving of bytes and main cycles that starts with no frame pending, no more frames are accepted or
rejected than were completed. -/
def Obligations.NoMoreFramesConsumedThanCompleted : Prop :=
  ∀ (s : State) (is : List Instr), isInterleaving is = true → s.frdy = false →
    consumptions is s ≤ completions is s

/-- R176 (c), (d), R28, under the policy this hardware has (log entry 2): in every state where a pending latch ends in the
marker (R35 (iii), which every step keeps), a step leaves TELEM as it is, or clears it by RESET, or replaces it by the
decode of the pending latch, which then has the marker at 38 and its own checksum at 37. -/
def Obligations.TelemetryComesFromAVerifiedLatch : Prop :=
  ∀ s t : State, (s.frdy = true → s.flatch.read 38 = 0x17) → step s = .next t →
    (t.telem = s.telem ∨ (t.telem = telemZero ∧ nextIsReset s) ∨
      (s.frdy = true ∧ s.flatch.read 38 = 0x17 ∧ Config.csum (s.flatch.bytes 0 37) = s.flatch.read 37 ∧
        t.telem = telemOfBytes (s.flatch.bytes 0 39))) ∧
    (t.frdy = true → t.flatch.read 38 = 0x17)

/-- R176 (d), R28: over all instructions, TELEM changes only by RESET, or where `Accepted` is emitted by a TICK or by an
RXPOLL of its own. -/
def Obligations.TelemetryChangesOnlyOnAccept : Prop :=
  ∀ (i : Instr) (s t : State), exec i s = .next t → t.telem ≠ s.telem →
    i = .reset ∨ (s.frdy = true ∧ t.frdy = false ∧ t.out.rxPoll = .accepted ∧
      ((∃ inputs, i = .tick inputs) ∨ i = .rxpoll ∨ i = .rxpollValidate ∨ i = .rxpollAccept))

/-! ### PAGEEVAL -/

/-- R192: while `PAGE = Init` the page is held until `init_seq_done`, whatever the flags and buttons are, and then becomes Leak,
Emergency or Mode1; the counter is 0; nothing else changes. -/
def Obligations.InitHoldsUntilSequenceDone : Prop :=
  ∀ (s : State) (sel alt : Bool), s.page = .init →
    exec (.pageeval sel alt false) s =
      .next { s with comboCnt := 0, out := pageOutputs .none false false s.out } ∧
    exec (.pageevalP0 false) s = exec (.pageeval sel alt false) s ∧
    exec (.pageeval sel alt true) s = .next { s with
      page := if LeakSeen s then .leak else if EmergSeen s then .emergency else .mode1,
      initCplt := true, comboCnt := 0, out := pageOutputs .p0 true false s.out } ∧
    exec (.pageevalP0 true) s = exec (.pageeval sel alt true) s

/-- R193: outside `Init` every evaluation first counts the buttons: one more, at most 5, while both are held, else 0; this
changes nothing else, and the evaluation's own rule leaves the count unless P6 fires. -/
def Obligations.DebounceCounterFollowsTheButtons : Prop :=
  ∀ (s : State) (sel alt done : Bool), s.page ≠ .init →
    exec (.pageevalCnt sel alt) s = .next { s with comboCnt := countAfter sel alt s.comboCnt } ∧
    ∃ t, exec (.pageeval sel alt done) s = .next t ∧
      (t.out.pageRule ≠ .p6 → t.comboCnt = countAfter sel alt s.comboCnt) ∧
      (t.out.pageRule = .p6 → t.comboCnt = 0)

/-- R194: outside `Init` an asserted leak forces `Leak`, whatever the page, the emergency flag and the buttons are; it is a change
only from another page; the counter still counts; nothing else changes. -/
def Obligations.LeakForcesTheLeakPage : Prop :=
  ∀ (s : State) (sel alt done : Bool), s.page ≠ .init → LeakSeen s →
    exec .pageevalP1 s = .next { s with
      page := .leak, out := pageOutputs .p1 (decide (s.page ≠ .leak)) false s.out } ∧
    exec (.pageeval sel alt done) s = .next { s with
      page := .leak, comboCnt := countAfter sel alt s.comboCnt,
      out := pageOutputs .p1 (decide (s.page ≠ .leak)) false s.out }

/-- R195: on `Leak` with both flags clear the page returns to `Mode1`; nothing but the counter changes beside it. -/
def Obligations.ClearedLeakReturnsToMode1 : Prop :=
  ∀ (s : State) (sel alt done : Bool), s.page = .leak → ¬LeakSeen s → ¬EmergSeen s →
    exec .pageevalP2 s = .next { s with page := .mode1, out := pageOutputs .p2 true false s.out } ∧
    exec (.pageeval sel alt done) s = .next { s with
      page := .mode1, comboCnt := countAfter sel alt s.comboCnt, out := pageOutputs .p2 true false s.out }

/-- R196: with the leak clear and the emergency asserted, `Mode1` and `Leak` give way to `Emergency`; nothing but the counter
changes beside it. -/
def Obligations.EmergencyForcesItsPage : Prop :=
  ∀ (s : State) (sel alt done : Bool), s.page = .mode1 ∨ s.page = .leak → ¬LeakSeen s → EmergSeen s →
    exec .pageevalP3 s = .next { s with page := .emergency, out := pageOutputs .p3 true false s.out } ∧
    exec (.pageeval sel alt done) s = .next { s with
      page := .emergency, comboCnt := countAfter sel alt s.comboCnt, out := pageOutputs .p3 true false s.out }

/-- R197: on `Emergency` with both flags clear the page returns to `Mode1`, whatever the count is. -/
def Obligations.ClearedEmergencyReturnsToMode1 : Prop :=
  ∀ (s : State) (sel alt done : Bool), s.page = .emergency → ¬LeakSeen s → ¬EmergSeen s →
    exec .pageevalP4 s = .next { s with page := .mode1, out := pageOutputs .p4 true false s.out } ∧
    exec (.pageeval sel alt done) s = .next { s with
      page := .mode1, comboCnt := countAfter sel alt s.comboCnt, out := pageOutputs .p4 true false s.out }

/-- R198 for the guard alone, as the rule's own example takes it (log entry 7): where it holds outside `Init`, P5 applied by
itself switches to `Mode1`. -/
def Obligations.ModeSelectRuleByItself : Prop :=
  ∀ s : State, s.page = .leak ∨ s.page = .emergency → ¬LeakSeen s → ¬EmergSeen s →
    exec (.pageevalP5 true false) s = .next { s with page := .mode1, out := pageOutputs .p5 true false s.out }

/-- R205: in PAGEEVAL, and so in TICK, P5 is never the rule that matches, in any state. -/
def Obligations.ModeSelectRuleIsNeverFirst : Prop :=
  (∀ (s t : State) (sel alt done : Bool), exec (.pageeval sel alt done) s = .next t → t.out.pageRule ≠ .p5) ∧
  (∀ (s t : State) (inputs : TickInputs), exec (.tick inputs) s = .next t → t.out.pageRule ≠ .p5)

/-- R199: when no rule P1 to P5 matches and the updated count is 5, the page controller alone is reinitialized; the link state
keeps its values. The second conjunct is that
evaluation. The first is the row P6 run by itself, which finds the count as CNT left it and does not look at the buttons
again: the model's reading (log entry 6). -/
def Obligations.FullCountReinitializes : Prop :=
  ∀ (s : State) (sel alt done : Bool), ¬LeakSeen s →
    (s.page = .mode1 ∧ ¬EmergSeen s ∨ s.page = .emergency ∧ EmergSeen s) →
    (s.comboCnt = 5 → exec (.pageevalP6 sel alt) s = .next { s with
      page := .init, initCplt := false, comboCnt := 0, out := pageOutputs .p6 true true s.out }) ∧
    (countAfter sel alt s.comboCnt = 5 → exec (.pageeval sel alt done) s = .next { s with
      page := .init, initCplt := false, comboCnt := 0, out := pageOutputs .p6 true true s.out })

/-- R200: on `Mode1` with both flags clear, and on `Emergency` with the emergency asserted and the leak clear, below the
threshold no rule matches: nothing changes but the counter. The second conjunct is that evaluation. The first
is the row NONE run by itself, which finds the count as CNT left it: the model's reading (log entry 6). -/
def Obligations.NoRuleKeepsThePage : Prop :=
  ∀ (s : State) (sel alt done : Bool), ¬LeakSeen s →
    (s.page = .mode1 ∧ ¬EmergSeen s ∨ s.page = .emergency ∧ EmergSeen s) →
    (s.comboCnt ≠ 5 → exec (.pageevalNone sel alt) s =
      .next { s with out := pageOutputs .none false false s.out }) ∧
    (countAfter sel alt s.comboCnt ≠ 5 → exec (.pageeval sel alt done) s = .next { s with
      comboCnt := countAfter sel alt s.comboCnt, out := pageOutputs .none false false s.out })

/-- R206: the table of transitions is complete and right, in every state: an evaluation moves the page to another one exactly
where a row says so, and where a row says so its rule is the one reported. -/
def Obligations.TransitionTableIsComplete : Prop :=
  ∀ (s : State) (sel alt done : Bool), ∃ t, exec (.pageeval sel alt done) s = .next t ∧
    ∀ dst : Page,
      ((t.page = dst ∧ dst ≠ s.page) ↔ ∃ r, transitionRow s.page dst r (LeakSeen s) (EmergSeen s) (done = true)
        (countAfter sel alt s.comboCnt).val) ∧
      ∀ r, transitionRow s.page dst r (LeakSeen s) (EmergSeen s) (done = true) (countAfter sel alt s.comboCnt).val →
        t.out.pageRule = r

/-- R204: with both flags asserted the page after an evaluation is `Leak`, from every page other than `Init` and whatever the
buttons; from `Init` it stays `Init` until `init_seq_done` and is then `Leak`. -/
def Obligations.LeakDominatesEmergency : Prop :=
  ∀ (s : State) (sel alt done : Bool), LeakSeen s → EmergSeen s → ∃ t,
    exec (.pageeval sel alt done) s = .next t ∧
    t.page = if s.page = .init ∧ done = false then .init else .leak

/-- R203: with the inputs and flags held, and not both buttons or the leak asserted, no evaluation after the first changes the
page. -/
def Obligations.SettledPageStaysPut : Prop :=
  ∀ (s : State) (sel alt done : Bool) (n : Nat), s.page ≠ .init → (¬(sel = true ∧ alt = true) ∨ LeakSeen s) → ∃ t u,
    exec (.pageeval sel alt done) s = .next t ∧
    run (List.replicate n (.pageeval sel alt done)) t = .next u ∧ u.page = t.page

/-- R193, R199 together (the source's reset-combo property): from a count of 0 where no other rule matches, fewer than five
held evaluations leave the page and count them; the fifth reinitializes; a release before it returns the count to 0. -/
def Obligations.FifthHeldEvaluationReinitializes : Prop :=
  ∀ (s : State) (done : Bool), ¬LeakSeen s → s.comboCnt = 0 →
    (s.page = .mode1 ∧ ¬EmergSeen s ∨ s.page = .emergency ∧ EmergSeen s) →
    (∀ n, n < 5 → ∃ t, run (List.replicate n (.pageeval true true done)) s = .next t ∧
      t.page = s.page ∧ t.comboCnt.val = n ∧
      ∀ sel alt, ¬(sel = true ∧ alt = true) → ∃ u, exec (.pageeval sel alt done) t = .next u ∧
        u.comboCnt = 0 ∧ u.page = s.page) ∧
    ∃ t, run (List.replicate 5 (.pageeval true true done)) s = .next t ∧
      t.page = .init ∧ t.initCplt = false ∧ t.comboCnt = 0 ∧ t.out.reinit = true ∧ t.out.plClear = true

/-- R202, R220, R221: in every TICK `page_changed` and `pl_clear` are raised exactly when PAGE changed value, and `reinit` exactly when
P6 matched, which is such a change. -/
def Obligations.ClearSignalsFollowPageChanges : Prop :=
  ∀ (s : State) (inputs : TickInputs), ∃ t, exec (.tick inputs) s = .next t ∧
    (t.out.plClear = true ↔ t.page ≠ s.page) ∧ t.out.pageChanged = t.out.plClear ∧
    (t.out.reinit = true ↔ t.out.pageRule = .p6) ∧ (t.out.reinit = true → t.out.plClear = true)

/-! ### TICK and the whole machine -/

/-- R160: a TICK completes, as TXSTEP, RXPOLL, PAGEEVAL in this order, with its inputs, on the state with idle outputs; so
does a TICK that takes the parameters as arguments (R78). -/
def Obligations.TickRunsThreeMicroOperations : Prop :=
  ∀ (s : State) (inputs : TickInputs),
    (∃ t, exec (.tick inputs) s = .next t ∧
      run [.txstep inputs.btn, .rxpoll, .pageeval inputs.modeSel inputs.modeAlt inputs.initSeqDone]
        { s with out := Outputs.idle } = .next t) ∧
    ∀ p : Config.Params, ∃ t, execWith p (.tick inputs) s = .next t ∧
      runWith p [.txstep inputs.btn, .rxpoll, .pageeval inputs.modeSel inputs.modeAlt inputs.initSeqDone]
        { s with out := Outputs.idle } = .next t

/-- R103: RESET, RXBYTE on every byte and TICK on every input complete in every state; TXSTEP, RXPOLL, PAGEEVAL and the two
frames do too, as their RXBYTE events (log entry 5, the model's reading of those two rows). -/
def Obligations.EveryInputCompletes : Prop :=
  ∀ s : State,
    (∃ t, exec .reset s = .next t) ∧ (∀ b, ∃ t, exec (.rxbyte b) s = .next t) ∧
    (∀ inputs, ∃ t, exec (.tick inputs) s = .next t) ∧ (∀ btn, ∃ t, exec (.txstep btn) s = .next t) ∧
    (∃ t, exec .rxpoll s = .next t) ∧ (∀ sel alt done, ∃ t, exec (.pageeval sel alt done) s = .next t) ∧
    (∀ f c, ∃ t, exec (.telemframe f c) s = .next t) ∧ (∀ btn c, ∃ t, exec (.ctrlframe btn c) s = .next t)

/-- R103: no instruction faults in any state. -/
def Obligations.NoInstructionFaults : Prop :=
  ∀ (i : Instr) (s : State) (f : Fault), exec i s ≠ .fault f

/-- R98, R100: a case run where its condition does not select it has no meaning in the spec, and is refused by its name (log
entry 6). That a wrong checksum does not select ACCEPT is the policy this hardware has (R175; log entry 2). -/
def Obligations.UnselectedCasesAreRefused : Prop :=
  ∀ (s : State) (b : Byte) (btn : Buttons) (sel alt done : Bool),
    (s.cur.toNat < 39 → exec (.rxbyteOverflow b) s = .refused (.caseNotSelected "RXBYTE.OVERFLOW")) ∧
    (38 ≤ s.cur.toNat → exec (.rxbyteStore b) s = .refused (.caseNotSelected "RXBYTE.STORE")) ∧
    (s.cur.toNat ≠ 38 ∨ b ≠ 0x17 → exec (.rxbyteComplete b) s = .refused (.caseNotSelected "RXBYTE.COMPLETE")) ∧
    (s.cur.toNat ≠ 38 ∨ b = 0x17 → exec (.rxbyteDesync b) s = .refused (.caseNotSelected "RXBYTE.DESYNC")) ∧
    (s.txcur ≠ 0 → exec (.txstepLoad btn) s = .refused (.caseNotSelected "TXSTEP.LOAD")) ∧
    (11 ≤ s.txcur.val → exec .txstepSend s = .refused (.caseNotSelected "TXSTEP.SEND")) ∧
    (s.txcur.val < 11 → exec .txstepGap s = .refused (.caseNotSelected "TXSTEP.GAP")) ∧
    (s.frdy = true → exec .rxpollIdle s = .refused (.caseNotSelected "RXPOLL.IDLE")) ∧
    (s.frdy = false → exec .rxpollValidate s = .refused (.caseNotSelected "RXPOLL.VALIDATE") ∧
      exec .rxpollAccept s = .refused (.caseNotSelected "RXPOLL.ACCEPT") ∧
      exec .rxpollReject s = .refused (.caseNotSelected "RXPOLL.REJECT")) ∧
    (Config.csum (s.flatch.bytes 0 37) ≠ s.flatch.read 37 →
      exec .rxpollAccept s = .refused (.caseNotSelected "RXPOLL.ACCEPT")) ∧
    (Config.csum (s.flatch.bytes 0 37) = s.flatch.read 37 →
      exec .rxpollReject s = .refused (.caseNotSelected "RXPOLL.REJECT")) ∧
    (s.page ≠ .init → exec (.pageevalP0 done) s = .refused (.caseNotSelected "PAGEEVAL.P0")) ∧
    (s.page = .init → exec (.pageevalCnt sel alt) s = .refused (.caseNotSelected "PAGEEVAL.CNT")) ∧
    (s.page = .init ∨ ¬LeakSeen s → exec .pageevalP1 s = .refused (.caseNotSelected "PAGEEVAL.P1")) ∧
    (s.page ≠ .leak ∨ LeakSeen s ∨ EmergSeen s → exec .pageevalP2 s = .refused (.caseNotSelected "PAGEEVAL.P2")) ∧
    (s.page = .init ∨ s.page = .emergency ∨ LeakSeen s ∨ ¬EmergSeen s →
      exec .pageevalP3 s = .refused (.caseNotSelected "PAGEEVAL.P3")) ∧
    (s.page ≠ .emergency ∨ LeakSeen s ∨ EmergSeen s →
      exec .pageevalP4 s = .refused (.caseNotSelected "PAGEEVAL.P4")) ∧
    (sel = false ∨ alt = true ∨ s.page = .init ∨ s.page = .mode1 ∨ LeakSeen s ∨ EmergSeen s →
      exec (.pageevalP5 sel alt) s = .refused (.caseNotSelected "PAGEEVAL.P5")) ∧
    (higherRuleOrInit s ∨ s.comboCnt ≠ 5 →
      exec (.pageevalP6 sel alt) s = .refused (.caseNotSelected "PAGEEVAL.P6")) ∧
    (higherRuleOrInit s ∨ s.comboCnt = 5 →
      exec (.pageevalNone sel alt) s = .refused (.caseNotSelected "PAGEEVAL.NONE"))

/-- R79: RXBYTE changes nothing of context M's state, and TICK nothing of context A's, nor the latch it reads. -/
def Obligations.ContextsOwnTheirState : Prop :=
  (∀ (b : Byte) (s : State), ∃ t, exec (.rxbyte b) s = .next t ∧
    t = { s with abuf := t.abuf, cur := t.cur, flatch := t.flatch, frdy := t.frdy, out := t.out }) ∧
  (∀ (inputs : TickInputs) (s : State), ∃ t, exec (.tick inputs) s = .next t ∧
    t.abuf = s.abuf ∧ t.cur = s.cur ∧ t.flatch = s.flatch ∧ t.stim = s.stim ∧ t.frdy = false)

/-- R230, R231 to R235, R240, R243: the classes an event raises are exactly those of its case, at most one; `LinkTimeout` and
`DecodeError` are never raised. -/
def Obligations.ErrorClassesAreRaisedExactly : Prop :=
  (∀ (b : Byte) (s t : State), exec (.rxbyte b) s = .next t →
    t.out.raised = (if 39 ≤ s.cur.toNat then [.bufferOverflow]
      else if s.cur.toNat = 38 ∧ b ≠ 0x17 then [.frameDesync] else [])) ∧
  (∀ (inputs : TickInputs) (s t : State), exec (.tick inputs) s = .next t →
    t.out.raised = (if s.frdy = true ∧ Config.csum (s.flatch.bytes 0 37) ≠ s.flatch.read 37
      then [.checksumMismatch] else [])) ∧
  (∀ s t : State, exec .reset s = .next t → t.out.raised = [])

/-- R236: the page controller reads neither `LINK_HEALTH` nor `CSUM_BAD`: two states that differ in them alone give evaluations
that differ in them alone. -/
def Obligations.PageControllerIgnoresLinkStatus : Prop :=
  ∀ (s : State) (h : LinkHealth) (c sel alt done : Bool), ∃ t,
    exec (.pageeval sel alt done) s = .next t ∧
    exec (.pageeval sel alt done) { s with linkHealth := h, csumBad := c } =
      .next { t with linkHealth := h, csumBad := c }

/-- R26, R234, for the block as the spec gives it (U7 leaves the firmware's own writer of `Timeout` open; log entry 8): no
instruction writes `Timeout`. -/
def Obligations.NothingWritesTimeout : Prop :=
  ∀ (i : Instr) (s t : State), exec i s = .next t → t.linkHealth = .timeout → s.linkHealth = .timeout

/-- R80: an RXBYTE that a finer model places between TXSTEP and RXPOLL leaves the block as one before the whole TICK does, and
one between RXPOLL and PAGEEVAL as one after it; so no behaviour is lost by the atomic TICK. -/
def Obligations.AtomicTickLosesNoInterleaving : Prop :=
  ∀ (s : State) (b : Byte) (i : TickInputs),
    (∃ t u, run [.txstep i.btn, .rxbyte b, .rxpoll, .pageeval i.modeSel i.modeAlt i.initSeqDone] s = .next t ∧
      run [.rxbyte b, .tick i] s = .next u ∧ block t = block u) ∧
    (∃ t u, run [.txstep i.btn, .rxpoll, .rxbyte b, .pageeval i.modeSel i.modeAlt i.initSeqDone] s = .next t ∧
      run [.tick i, .rxbyte b] s = .next u ∧ block t = block u)

/-! ### What is seen from outside -/

/-- R99: the codes of the enumerations, each of them; the codes R50 and R26 reserve are given by none. R50: the level outputs
show the current items of state, in every state. -/
def Obligations.LevelOutputsAndCodes : Prop :=
  (Page.init.code = 0 ∧ Page.mode1.code = 1 ∧ Page.leak.code = 2 ∧ Page.emergency.code = 3) ∧
  (LinkHealth.synced.code = 0 ∧ LinkHealth.timeout.code = 1 ∧ LinkHealth.frameError.code = 2 ∧
    ∀ h : LinkHealth, h.code ≠ 3) ∧
  (RxOutcome.stored.code = 0 ∧ RxOutcome.complete.code = 1 ∧ RxOutcome.desync.code = 2 ∧
    ∀ o : RxOutcome, o.code ≠ 3) ∧
  (RxPoll.idle.code = 0 ∧ RxPoll.accepted.code = 1 ∧ RxPoll.rejected.code = 2 ∧ ∀ o : RxPoll, o.code ≠ 3) ∧
  (PageRule.p0.code = 0 ∧ PageRule.p1.code = 1 ∧ PageRule.p2.code = 2 ∧ PageRule.p3.code = 3 ∧ PageRule.p4.code = 4 ∧
    PageRule.p5.code = 5 ∧ PageRule.p6.code = 6 ∧ PageRule.none.code = 7) ∧
  (policyCode .acceptAll = 0 ∧ policyCode .verifyReject = 1) ∧
  ∀ s : State, (levels s).page = s.page.code ∧ (levels s).telem = s.telem ∧ (levels s).linkHealth = s.linkHealth.code ∧
    (levels s).csumBad = s.csumBad ∧ (levels s).initCplt = s.initCplt

/-! ### Invariants -/

/-- R35 at the reset state, with the canonical form of the buffers (log entry 13). -/
def Obligations.ResetMeetsTheInvariants : Prop := Inv State.reset ∧ BuffersWf State.reset

/-- R35: every step keeps the invariants, from every state that meets them. Item (viii) is R35's, for the block as the spec
gives it (U7; log entry 8). -/
def Obligations.StepKeepsTheInvariants : Prop :=
  ∀ s t : State, Inv s → step s = .next t → Inv t

/-- Every instruction keeps the three buffers in canonical form and within their sizes (R60), in every state. The canonical
form, indices rising and no 0x00 listed, is the model's representation of a buffer (log entry 13). -/
def Obligations.EveryInstructionKeepsTheBuffersCanonical : Prop :=
  ∀ (i : Instr) (s t : State), BuffersWf s → exec i s = .next t → BuffersWf t
end

