-- ==== Sys2Proof/Laws/Memory.lean ====
section
/-!
SUPPORT. The laws of a buffer's contents: reading after writing, the canonical form that every operation keeps, and that
canonical contents which read alike are equal.
-/

namespace Sys2Proof.Machine

/-! ### Reading after writing -/

@[simp] theorem read_nil (i : Nat) : Memory.read [] i = 0x00 := rfl

@[simp] theorem read_zeros (i : Nat) : Memory.zeros.read i = 0x00 := rfl

theorem read_cons (k : Nat) (v : Byte) (m : Memory) (i : Nat) :
    Memory.read ((k, v) :: m) i = if k = i then v else Memory.read m i := rfl

theorem read_erase (m : Memory) (a i : Nat) : (m.erase a).read i = if i = a then 0x00 else m.read i := by
  induction m with
  | nil => simp [Memory.erase]
  | cons c m ih =>
    obtain ⟨k, v⟩ := c
    by_cases hk : k = a
    · subst hk
      simp only [Memory.erase, if_true, ih, read_cons]
      by_cases hi : i = k
      · simp [hi]
      · simp [hi, Ne.symm hi]
    · simp only [Memory.erase, hk, if_false, read_cons, ih]
      by_cases hki : k = i
      · subst hki; simp [hk]
      · simp [hki]

theorem read_insert (m : Memory) (a : Nat) (b : Byte) (i : Nat) :
    (m.insert a b).read i = if i = a then b else m.read i := by
  induction m with
  | nil => simp [Memory.insert, read_cons, eq_comm]
  | cons c m ih =>
    obtain ⟨k, v⟩ := c
    simp only [Memory.insert]
    split
    · simp [read_cons, eq_comm]
    · split
      · rename_i h
        subst h
        simp only [read_cons]
        by_cases hi : i = a
        · simp [hi]
        · simp [hi, Ne.symm hi]
      · rename_i h
        simp only [read_cons, ih]
        by_cases hki : k = i
        · subst hki; simp [Ne.symm h]
        · simp [hki]

/-- A read after a write gives the byte written there, and what stood there elsewhere. -/
@[simp] theorem read_write (m : Memory) (a : Nat) (b : Byte) (i : Nat) :
    (m.write a b).read i = if i = a then b else m.read i := by
  unfold Memory.write
  split
  · rename_i h; subst h; exact read_erase m a i
  · exact read_insert m a b i

theorem read_writeBytes (bs : List Byte) (m : Memory) (a i : Nat) :
    (m.writeBytes a bs).read i = if a ≤ i ∧ i < a + bs.length then bs.getD (i - a) 0 else m.read i := by
  induction bs generalizing m a with
  | nil =>
    have : ¬(a ≤ i ∧ i < a + ([] : List Byte).length) := by simp
    simp only [Memory.writeBytes, if_neg this]
  | cons b bs ih =>
    simp only [Memory.writeBytes, ih, read_write, List.length_cons]
    by_cases hi : i = a
    · subst hi
      rw [if_neg (by omega), if_pos rfl, if_pos (by omega)]
      simp
    · by_cases h : a + 1 ≤ i ∧ i < a + 1 + bs.length
      · rw [if_pos h, if_pos (by omega)]
        obtain ⟨d, rfl⟩ : ∃ d, i = a + 1 + d := ⟨i - (a + 1), by omega⟩
        rw [show a + 1 + d - (a + 1) = d by omega, show a + 1 + d - a = d + 1 by omega]
        simp
      · rw [if_neg h, if_neg hi, if_neg (by omega)]

/-- A whole-buffer write reads back byte by byte, and 0x00 beyond. -/
@[simp] theorem read_ofBytes (bs : List Byte) (i : Nat) : (Memory.ofBytes bs).read i = bs.getD i 0 := by
  unfold Memory.ofBytes
  rw [read_writeBytes]
  split
  · simp
  · rename_i h
    have : bs.length ≤ i := by omega
    rw [read_zeros, List.getD_eq_default _ _ this]

@[simp] theorem length_bytes (m : Memory) (a n : Nat) : (m.bytes a n).length = n := by
  induction n generalizing a with
  | zero => rfl
  | succ n ih => simp [Memory.bytes, ih]

theorem getD_bytes (m : Memory) (a n i : Nat) (h : i < n) : (m.bytes a n).getD i 0 = m.read (a + i) := by
  induction n generalizing a i with
  | zero => omega
  | succ n ih =>
    cases i with
    | zero => simp [Memory.bytes]
    | succ i =>
      simp only [Memory.bytes, List.getD_cons_succ]
      rw [ih _ _ (by omega)]
      congr 1; omega

theorem bytes_congr (m m' : Memory) (a n : Nat) (h : ∀ i, i < n → m.read (a + i) = m'.read (a + i)) :
    m.bytes a n = m'.bytes a n := by
  induction n generalizing a with
  | zero => rfl
  | succ n ih =>
    simp only [Memory.bytes]
    rw [show m.read a = m'.read a from h 0 (by omega),
      ih (a + 1) fun i hi => by have := h (i + 1) (by omega); rwa [← Nat.add_assoc, Nat.add_right_comm] at this]

/-- The bytes a whole-buffer write holds are the bytes written. -/
theorem bytes_ofBytes (bs : List Byte) : (Memory.ofBytes bs).bytes 0 bs.length = bs := by
  apply List.ext_getElem (by simp)
  intro i h₁ h₂
  have h := getD_bytes (Memory.ofBytes bs) 0 bs.length i (by simpa using h₂)
  rw [List.getD_eq_getElem _ _ h₁] at h
  rw [h, Nat.zero_add, read_ofBytes, List.getD_eq_getElem _ _ h₂]

/-! ### The canonical form -/

theorem wfFrom_mono {m : Memory} {lo lo' : Nat} (h : Memory.wfFrom lo' m = true) (hl : lo ≤ lo') :
    Memory.wfFrom lo m = true := by
  cases m with
  | nil => rfl
  | cons c m =>
    obtain ⟨k, v⟩ := c
    simp only [Memory.wfFrom, Bool.and_eq_true, decide_eq_true_eq] at h ⊢
    exact ⟨⟨by omega, h.1.2⟩, h.2⟩

theorem wfFrom_erase {m : Memory} {lo : Nat} (a : Nat) (h : Memory.wfFrom lo m = true) :
    Memory.wfFrom lo (m.erase a) = true := by
  induction m generalizing lo with
  | nil => rfl
  | cons c m ih =>
    obtain ⟨k, v⟩ := c
    simp only [Memory.wfFrom, Bool.and_eq_true, decide_eq_true_eq] at h
    simp only [Memory.erase]
    split
    · exact wfFrom_mono (ih h.2) (by omega)
    · simp only [Memory.wfFrom, Bool.and_eq_true, decide_eq_true_eq]
      exact ⟨h.1, ih h.2⟩

theorem wfFrom_insert {m : Memory} {lo : Nat} (a : Nat) (b : Byte) (hb : b ≠ 0x00) (ha : lo ≤ a)
    (h : Memory.wfFrom lo m = true) : Memory.wfFrom lo (m.insert a b) = true := by
  have hb' : (b != 0x00) = true := by simpa using hb
  induction m generalizing lo with
  | nil => simpa [Memory.insert, Memory.wfFrom, ha] using hb
  | cons c m ih =>
    obtain ⟨k, v⟩ := c
    simp only [Memory.wfFrom, Bool.and_eq_true, decide_eq_true_eq] at h
    simp only [Memory.insert]
    split
    · simp only [Memory.wfFrom, Bool.and_eq_true, decide_eq_true_eq]
      exact ⟨⟨ha, hb'⟩, ⟨by omega, h.1.2⟩, h.2⟩
    · split
      · rename_i hk
        subst hk
        simp only [Memory.wfFrom, Bool.and_eq_true, decide_eq_true_eq]
        exact ⟨⟨ha, hb'⟩, h.2⟩
      · simp only [Memory.wfFrom, Bool.and_eq_true, decide_eq_true_eq]
        exact ⟨h.1, ih (by omega) h.2⟩

/-- A write keeps the canonical form. -/
theorem wf_write {m : Memory} (a : Nat) (b : Byte) (h : m.wf = true) : (m.write a b).wf = true := by
  unfold Memory.write
  split
  · exact wfFrom_erase a h
  · rename_i hb; exact wfFrom_insert a b hb (by omega) h

@[simp] theorem wf_zeros : Memory.zeros.wf = true := rfl

theorem wf_writeBytes (bs : List Byte) {m : Memory} (a : Nat) (h : m.wf = true) : (m.writeBytes a bs).wf = true := by
  induction bs generalizing m a with
  | nil => exact h
  | cons b bs ih => exact ih _ (wf_write a b h)

/-- A whole-buffer write is in canonical form. -/
@[simp] theorem wf_ofBytes (bs : List Byte) : (Memory.ofBytes bs).wf = true := wf_writeBytes bs 0 wf_zeros

/-! ### Staying within a buffer -/

theorem within_erase {size : Nat} {m : Memory} (a : Nat) (h : m.within size = true) :
    (m.erase a).within size = true := by
  induction m with
  | nil => rfl
  | cons c m ih =>
    obtain ⟨k, v⟩ := c
    simp only [Memory.within, List.all_cons, Bool.and_eq_true] at h
    simp only [Memory.erase]
    split
    · exact ih h.2
    · simp only [Memory.within, List.all_cons, Bool.and_eq_true]
      exact ⟨h.1, ih h.2⟩

theorem within_insert {size : Nat} {m : Memory} (a : Nat) (b : Byte) (ha : a < size) (h : m.within size = true) :
    (m.insert a b).within size = true := by
  induction m with
  | nil => simp [Memory.insert, Memory.within, ha]
  | cons c m ih =>
    obtain ⟨k, v⟩ := c
    simp only [Memory.within, List.all_cons, Bool.and_eq_true, decide_eq_true_eq] at h
    simp only [Memory.insert]
    split
    · simp only [Memory.within, List.all_cons, Bool.and_eq_true, decide_eq_true_eq]
      exact ⟨ha, h⟩
    · split
      · simp only [Memory.within, List.all_cons, Bool.and_eq_true, decide_eq_true_eq]
        exact ⟨ha, h.2⟩
      · simp only [Memory.within, List.all_cons, Bool.and_eq_true, decide_eq_true_eq]
        exact ⟨h.1, ih h.2⟩

/-- A write inside the buffer stays within it. -/
theorem within_write {size : Nat} {m : Memory} (a : Nat) (b : Byte) (ha : a < size) (h : m.within size = true) :
    (m.write a b).within size = true := by
  unfold Memory.write
  split
  · exact within_erase a h
  · exact within_insert a b ha h

theorem within_writeBytes {size : Nat} (bs : List Byte) {m : Memory} (a : Nat) (ha : a + bs.length ≤ size)
    (h : m.within size = true) : (m.writeBytes a bs).within size = true := by
  induction bs generalizing m a with
  | nil => exact h
  | cons b bs ih =>
    simp only [List.length_cons] at ha
    exact ih _ (by omega) (within_write a b (by omega) h)

/-- A whole-buffer write of at most `size` bytes stays within the buffer. -/
theorem within_ofBytes {size : Nat} (bs : List Byte) (h : bs.length ≤ size) :
    (Memory.ofBytes bs).within size = true := within_writeBytes bs 0 (by omega) rfl

/-! ### Equal contents are equal data -/

theorem read_eq_zero_of_lt {m : Memory} {lo i : Nat} (h : Memory.wfFrom lo m = true) (hi : i < lo) :
    m.read i = 0x00 := by
  induction m generalizing lo with
  | nil => rfl
  | cons c m ih =>
    obtain ⟨k, v⟩ := c
    simp only [Memory.wfFrom, Bool.and_eq_true, decide_eq_true_eq] at h
    rw [read_cons, if_neg (by omega)]
    exact ih h.2 (by omega)

theorem ext_of_wfFrom {m m' : Memory} {lo : Nat} (h : Memory.wfFrom lo m = true) (h' : Memory.wfFrom lo m' = true)
    (hr : ∀ i, m.read i = m'.read i) : m = m' := by
  induction m generalizing m' lo with
  | nil =>
    cases m' with
    | nil => rfl
    | cons c m' =>
      obtain ⟨k, v⟩ := c
      simp only [Memory.wfFrom, Bool.and_eq_true, bne_iff_ne] at h'
      exact absurd (by simpa [read_cons] using (hr k).symm) h'.1.2
  | cons c m ih =>
    obtain ⟨k, v⟩ := c
    have hc := h
    simp only [Memory.wfFrom, Bool.and_eq_true, decide_eq_true_eq, bne_iff_ne] at h
    cases m' with
    | nil => exact absurd (by simpa [read_cons] using hr k) h.1.2
    | cons c' m' =>
      obtain ⟨k', v'⟩ := c'
      simp only [Memory.wfFrom, Bool.and_eq_true, decide_eq_true_eq, bne_iff_ne] at h'
      have hk : k = k' := by
        rcases Nat.lt_trichotomy k k' with hlt | heq | hgt
        · have h₁ := hr k
          rw [read_cons, if_pos rfl, read_cons, if_neg (by omega), read_eq_zero_of_lt h'.2 (by omega)] at h₁
          exact absurd h₁ h.1.2
        · exact heq
        · have h₁ := hr k'
          rw [read_cons, if_neg (by omega), read_eq_zero_of_lt h.2 (by omega), read_cons, if_pos rfl] at h₁
          exact absurd h₁.symm h'.1.2
      subst hk
      have hv : v = v' := by simpa [read_cons] using hr k
      subst hv
      congr 1
      refine ih h.2 h'.2 fun i => ?_
      rcases Nat.lt_or_ge k i with hlt | hge
      · have h₁ := hr i
        rwa [read_cons, if_neg (by omega), read_cons, if_neg (by omega)] at h₁
      · rw [read_eq_zero_of_lt h.2 (by omega), read_eq_zero_of_lt h'.2 (by omega)]

/-- Canonical contents that read alike are equal. -/
theorem Memory.ext_of_wf {m m' : Memory} (h : m.wf = true) (h' : m'.wf = true) (hr : ∀ i, m.read i = m'.read i) :
    m = m' := ext_of_wfFrom h h' hr

end Sys2Proof.Machine
end

