-- ==== Sys2Proof/Laws/State.lean ====
section
/-!
SUPPORT. One lemma per field for each shared update of the state, so that no proof unfolds a record update.
-/

namespace Sys2Proof.Machine

/-! #### `emptyAssembler` -/

@[simp] theorem emptyAssembler_abuf (s : State) : (emptyAssembler s).abuf = Memory.zeros := rfl
@[simp] theorem emptyAssembler_cur (s : State) : (emptyAssembler s).cur = 0 := rfl
@[simp] theorem emptyAssembler_flatch (s : State) : (emptyAssembler s).flatch = s.flatch := rfl
@[simp] theorem emptyAssembler_frdy (s : State) : (emptyAssembler s).frdy = s.frdy := rfl
@[simp] theorem emptyAssembler_csumBad (s : State) : (emptyAssembler s).csumBad = s.csumBad := rfl
@[simp] theorem emptyAssembler_linkHealth (s : State) : (emptyAssembler s).linkHealth = s.linkHealth := rfl
@[simp] theorem emptyAssembler_telem (s : State) : (emptyAssembler s).telem = s.telem := rfl
@[simp] theorem emptyAssembler_txbuf (s : State) : (emptyAssembler s).txbuf = s.txbuf := rfl
@[simp] theorem emptyAssembler_txcur (s : State) : (emptyAssembler s).txcur = s.txcur := rfl
@[simp] theorem emptyAssembler_page (s : State) : (emptyAssembler s).page = s.page := rfl
@[simp] theorem emptyAssembler_initCplt (s : State) : (emptyAssembler s).initCplt = s.initCplt := rfl
@[simp] theorem emptyAssembler_comboCnt (s : State) : (emptyAssembler s).comboCnt = s.comboCnt := rfl
@[simp] theorem emptyAssembler_out (s : State) : (emptyAssembler s).out = s.out := rfl
@[simp] theorem emptyAssembler_stim (s : State) : (emptyAssembler s).stim = s.stim := rfl

/-! #### `clearOut` -/

@[simp] theorem clearOut_abuf (s : State) : (clearOut s).abuf = s.abuf := rfl
@[simp] theorem clearOut_cur (s : State) : (clearOut s).cur = s.cur := rfl
@[simp] theorem clearOut_flatch (s : State) : (clearOut s).flatch = s.flatch := rfl
@[simp] theorem clearOut_frdy (s : State) : (clearOut s).frdy = s.frdy := rfl
@[simp] theorem clearOut_csumBad (s : State) : (clearOut s).csumBad = s.csumBad := rfl
@[simp] theorem clearOut_linkHealth (s : State) : (clearOut s).linkHealth = s.linkHealth := rfl
@[simp] theorem clearOut_telem (s : State) : (clearOut s).telem = s.telem := rfl
@[simp] theorem clearOut_txbuf (s : State) : (clearOut s).txbuf = s.txbuf := rfl
@[simp] theorem clearOut_txcur (s : State) : (clearOut s).txcur = s.txcur := rfl
@[simp] theorem clearOut_page (s : State) : (clearOut s).page = s.page := rfl
@[simp] theorem clearOut_initCplt (s : State) : (clearOut s).initCplt = s.initCplt := rfl
@[simp] theorem clearOut_comboCnt (s : State) : (clearOut s).comboCnt = s.comboCnt := rfl
@[simp] theorem clearOut_out (s : State) : (clearOut s).out = Outputs.idle := rfl
@[simp] theorem clearOut_stim (s : State) : (clearOut s).stim = s.stim := rfl

/-! #### `raiseError` -/

@[simp] theorem raiseError_abuf (e : ErrorClass) (s : State) : (raiseError e s).abuf = s.abuf := rfl
@[simp] theorem raiseError_cur (e : ErrorClass) (s : State) : (raiseError e s).cur = s.cur := rfl
@[simp] theorem raiseError_flatch (e : ErrorClass) (s : State) : (raiseError e s).flatch = s.flatch := rfl
@[simp] theorem raiseError_frdy (e : ErrorClass) (s : State) : (raiseError e s).frdy = s.frdy := rfl
@[simp] theorem raiseError_csumBad (e : ErrorClass) (s : State) : (raiseError e s).csumBad = s.csumBad := rfl
@[simp] theorem raiseError_linkHealth (e : ErrorClass) (s : State) : (raiseError e s).linkHealth = s.linkHealth := rfl
@[simp] theorem raiseError_telem (e : ErrorClass) (s : State) : (raiseError e s).telem = s.telem := rfl
@[simp] theorem raiseError_txbuf (e : ErrorClass) (s : State) : (raiseError e s).txbuf = s.txbuf := rfl
@[simp] theorem raiseError_txcur (e : ErrorClass) (s : State) : (raiseError e s).txcur = s.txcur := rfl
@[simp] theorem raiseError_page (e : ErrorClass) (s : State) : (raiseError e s).page = s.page := rfl
@[simp] theorem raiseError_initCplt (e : ErrorClass) (s : State) : (raiseError e s).initCplt = s.initCplt := rfl
@[simp] theorem raiseError_comboCnt (e : ErrorClass) (s : State) : (raiseError e s).comboCnt = s.comboCnt := rfl
@[simp] theorem raiseError_out (e : ErrorClass) (s : State) : (raiseError e s).out = { s.out with raised := s.out.raised ++ [e] } := rfl
@[simp] theorem raiseError_stim (e : ErrorClass) (s : State) : (raiseError e s).stim = s.stim := rfl

/-! #### `emitRxOutcome` -/

@[simp] theorem emitRxOutcome_abuf (o : RxOutcome) (s : State) : (emitRxOutcome o s).abuf = s.abuf := rfl
@[simp] theorem emitRxOutcome_cur (o : RxOutcome) (s : State) : (emitRxOutcome o s).cur = s.cur := rfl
@[simp] theorem emitRxOutcome_flatch (o : RxOutcome) (s : State) : (emitRxOutcome o s).flatch = s.flatch := rfl
@[simp] theorem emitRxOutcome_frdy (o : RxOutcome) (s : State) : (emitRxOutcome o s).frdy = s.frdy := rfl
@[simp] theorem emitRxOutcome_csumBad (o : RxOutcome) (s : State) : (emitRxOutcome o s).csumBad = s.csumBad := rfl
@[simp] theorem emitRxOutcome_linkHealth (o : RxOutcome) (s : State) : (emitRxOutcome o s).linkHealth = s.linkHealth := rfl
@[simp] theorem emitRxOutcome_telem (o : RxOutcome) (s : State) : (emitRxOutcome o s).telem = s.telem := rfl
@[simp] theorem emitRxOutcome_txbuf (o : RxOutcome) (s : State) : (emitRxOutcome o s).txbuf = s.txbuf := rfl
@[simp] theorem emitRxOutcome_txcur (o : RxOutcome) (s : State) : (emitRxOutcome o s).txcur = s.txcur := rfl
@[simp] theorem emitRxOutcome_page (o : RxOutcome) (s : State) : (emitRxOutcome o s).page = s.page := rfl
@[simp] theorem emitRxOutcome_initCplt (o : RxOutcome) (s : State) : (emitRxOutcome o s).initCplt = s.initCplt := rfl
@[simp] theorem emitRxOutcome_comboCnt (o : RxOutcome) (s : State) : (emitRxOutcome o s).comboCnt = s.comboCnt := rfl
@[simp] theorem emitRxOutcome_out (o : RxOutcome) (s : State) : (emitRxOutcome o s).out = { s.out with rxOutcome := some o } := rfl
@[simp] theorem emitRxOutcome_stim (o : RxOutcome) (s : State) : (emitRxOutcome o s).stim = s.stim := rfl

/-! #### `emitRxOverflow` -/

@[simp] theorem emitRxOverflow_abuf (s : State) : (emitRxOverflow s).abuf = s.abuf := rfl
@[simp] theorem emitRxOverflow_cur (s : State) : (emitRxOverflow s).cur = s.cur := rfl
@[simp] theorem emitRxOverflow_flatch (s : State) : (emitRxOverflow s).flatch = s.flatch := rfl
@[simp] theorem emitRxOverflow_frdy (s : State) : (emitRxOverflow s).frdy = s.frdy := rfl
@[simp] theorem emitRxOverflow_csumBad (s : State) : (emitRxOverflow s).csumBad = s.csumBad := rfl
@[simp] theorem emitRxOverflow_linkHealth (s : State) : (emitRxOverflow s).linkHealth = s.linkHealth := rfl
@[simp] theorem emitRxOverflow_telem (s : State) : (emitRxOverflow s).telem = s.telem := rfl
@[simp] theorem emitRxOverflow_txbuf (s : State) : (emitRxOverflow s).txbuf = s.txbuf := rfl
@[simp] theorem emitRxOverflow_txcur (s : State) : (emitRxOverflow s).txcur = s.txcur := rfl
@[simp] theorem emitRxOverflow_page (s : State) : (emitRxOverflow s).page = s.page := rfl
@[simp] theorem emitRxOverflow_initCplt (s : State) : (emitRxOverflow s).initCplt = s.initCplt := rfl
@[simp] theorem emitRxOverflow_comboCnt (s : State) : (emitRxOverflow s).comboCnt = s.comboCnt := rfl
@[simp] theorem emitRxOverflow_out (s : State) : (emitRxOverflow s).out = { s.out with rxOverflow := true } := rfl
@[simp] theorem emitRxOverflow_stim (s : State) : (emitRxOverflow s).stim = s.stim := rfl

/-! #### `emitTx` -/

@[simp] theorem emitTx_abuf (v : Bool) (d : Byte) (s : State) : (emitTx v d s).abuf = s.abuf := rfl
@[simp] theorem emitTx_cur (v : Bool) (d : Byte) (s : State) : (emitTx v d s).cur = s.cur := rfl
@[simp] theorem emitTx_flatch (v : Bool) (d : Byte) (s : State) : (emitTx v d s).flatch = s.flatch := rfl
@[simp] theorem emitTx_frdy (v : Bool) (d : Byte) (s : State) : (emitTx v d s).frdy = s.frdy := rfl
@[simp] theorem emitTx_csumBad (v : Bool) (d : Byte) (s : State) : (emitTx v d s).csumBad = s.csumBad := rfl
@[simp] theorem emitTx_linkHealth (v : Bool) (d : Byte) (s : State) : (emitTx v d s).linkHealth = s.linkHealth := rfl
@[simp] theorem emitTx_telem (v : Bool) (d : Byte) (s : State) : (emitTx v d s).telem = s.telem := rfl
@[simp] theorem emitTx_txbuf (v : Bool) (d : Byte) (s : State) : (emitTx v d s).txbuf = s.txbuf := rfl
@[simp] theorem emitTx_txcur (v : Bool) (d : Byte) (s : State) : (emitTx v d s).txcur = s.txcur := rfl
@[simp] theorem emitTx_page (v : Bool) (d : Byte) (s : State) : (emitTx v d s).page = s.page := rfl
@[simp] theorem emitTx_initCplt (v : Bool) (d : Byte) (s : State) : (emitTx v d s).initCplt = s.initCplt := rfl
@[simp] theorem emitTx_comboCnt (v : Bool) (d : Byte) (s : State) : (emitTx v d s).comboCnt = s.comboCnt := rfl
@[simp] theorem emitTx_out (v : Bool) (d : Byte) (s : State) : (emitTx v d s).out = { s.out with txValid := v, txData := d } := rfl
@[simp] theorem emitTx_stim (v : Bool) (d : Byte) (s : State) : (emitTx v d s).stim = s.stim := rfl

/-! #### `emitRxPoll` -/

@[simp] theorem emitRxPoll_abuf (q : RxPoll) (s : State) : (emitRxPoll q s).abuf = s.abuf := rfl
@[simp] theorem emitRxPoll_cur (q : RxPoll) (s : State) : (emitRxPoll q s).cur = s.cur := rfl
@[simp] theorem emitRxPoll_flatch (q : RxPoll) (s : State) : (emitRxPoll q s).flatch = s.flatch := rfl
@[simp] theorem emitRxPoll_frdy (q : RxPoll) (s : State) : (emitRxPoll q s).frdy = s.frdy := rfl
@[simp] theorem emitRxPoll_csumBad (q : RxPoll) (s : State) : (emitRxPoll q s).csumBad = s.csumBad := rfl
@[simp] theorem emitRxPoll_linkHealth (q : RxPoll) (s : State) : (emitRxPoll q s).linkHealth = s.linkHealth := rfl
@[simp] theorem emitRxPoll_telem (q : RxPoll) (s : State) : (emitRxPoll q s).telem = s.telem := rfl
@[simp] theorem emitRxPoll_txbuf (q : RxPoll) (s : State) : (emitRxPoll q s).txbuf = s.txbuf := rfl
@[simp] theorem emitRxPoll_txcur (q : RxPoll) (s : State) : (emitRxPoll q s).txcur = s.txcur := rfl
@[simp] theorem emitRxPoll_page (q : RxPoll) (s : State) : (emitRxPoll q s).page = s.page := rfl
@[simp] theorem emitRxPoll_initCplt (q : RxPoll) (s : State) : (emitRxPoll q s).initCplt = s.initCplt := rfl
@[simp] theorem emitRxPoll_comboCnt (q : RxPoll) (s : State) : (emitRxPoll q s).comboCnt = s.comboCnt := rfl
@[simp] theorem emitRxPoll_out (q : RxPoll) (s : State) : (emitRxPoll q s).out = { s.out with rxPoll := q } := rfl
@[simp] theorem emitRxPoll_stim (q : RxPoll) (s : State) : (emitRxPoll q s).stim = s.stim := rfl

/-! #### `emitPage` -/

@[simp] theorem emitPage_abuf (r : PageRule) (c ri : Bool) (s : State) : (emitPage r c ri s).abuf = s.abuf := rfl
@[simp] theorem emitPage_cur (r : PageRule) (c ri : Bool) (s : State) : (emitPage r c ri s).cur = s.cur := rfl
@[simp] theorem emitPage_flatch (r : PageRule) (c ri : Bool) (s : State) : (emitPage r c ri s).flatch = s.flatch := rfl
@[simp] theorem emitPage_frdy (r : PageRule) (c ri : Bool) (s : State) : (emitPage r c ri s).frdy = s.frdy := rfl
@[simp] theorem emitPage_csumBad (r : PageRule) (c ri : Bool) (s : State) : (emitPage r c ri s).csumBad = s.csumBad := rfl
@[simp] theorem emitPage_linkHealth (r : PageRule) (c ri : Bool) (s : State) : (emitPage r c ri s).linkHealth = s.linkHealth := rfl
@[simp] theorem emitPage_telem (r : PageRule) (c ri : Bool) (s : State) : (emitPage r c ri s).telem = s.telem := rfl
@[simp] theorem emitPage_txbuf (r : PageRule) (c ri : Bool) (s : State) : (emitPage r c ri s).txbuf = s.txbuf := rfl
@[simp] theorem emitPage_txcur (r : PageRule) (c ri : Bool) (s : State) : (emitPage r c ri s).txcur = s.txcur := rfl
@[simp] theorem emitPage_page (r : PageRule) (c ri : Bool) (s : State) : (emitPage r c ri s).page = s.page := rfl
@[simp] theorem emitPage_initCplt (r : PageRule) (c ri : Bool) (s : State) : (emitPage r c ri s).initCplt = s.initCplt := rfl
@[simp] theorem emitPage_comboCnt (r : PageRule) (c ri : Bool) (s : State) : (emitPage r c ri s).comboCnt = s.comboCnt := rfl
@[simp] theorem emitPage_out (r : PageRule) (c ri : Bool) (s : State) : (emitPage r c ri s).out = { s.out with pageRule := r, pageChanged := c, plClear := c, reinit := ri } := rfl
@[simp] theorem emitPage_stim (r : PageRule) (c ri : Bool) (s : State) : (emitPage r c ri s).stim = s.stim := rfl

/-! #### `returnResult` -/

@[simp] theorem returnResult_abuf (r : FuncResult) (s : State) : (returnResult r s).abuf = s.abuf := rfl
@[simp] theorem returnResult_cur (r : FuncResult) (s : State) : (returnResult r s).cur = s.cur := rfl
@[simp] theorem returnResult_flatch (r : FuncResult) (s : State) : (returnResult r s).flatch = s.flatch := rfl
@[simp] theorem returnResult_frdy (r : FuncResult) (s : State) : (returnResult r s).frdy = s.frdy := rfl
@[simp] theorem returnResult_csumBad (r : FuncResult) (s : State) : (returnResult r s).csumBad = s.csumBad := rfl
@[simp] theorem returnResult_linkHealth (r : FuncResult) (s : State) : (returnResult r s).linkHealth = s.linkHealth := rfl
@[simp] theorem returnResult_telem (r : FuncResult) (s : State) : (returnResult r s).telem = s.telem := rfl
@[simp] theorem returnResult_txbuf (r : FuncResult) (s : State) : (returnResult r s).txbuf = s.txbuf := rfl
@[simp] theorem returnResult_txcur (r : FuncResult) (s : State) : (returnResult r s).txcur = s.txcur := rfl
@[simp] theorem returnResult_page (r : FuncResult) (s : State) : (returnResult r s).page = s.page := rfl
@[simp] theorem returnResult_initCplt (r : FuncResult) (s : State) : (returnResult r s).initCplt = s.initCplt := rfl
@[simp] theorem returnResult_comboCnt (r : FuncResult) (s : State) : (returnResult r s).comboCnt = s.comboCnt := rfl
@[simp] theorem returnResult_out (r : FuncResult) (s : State) : (returnResult r s).out = { Outputs.idle with result := r } := rfl
@[simp] theorem returnResult_stim (r : FuncResult) (s : State) : (returnResult r s).stim = s.stim := rfl

/-! #### `loadTxbuf` -/

@[simp] theorem loadTxbuf_abuf (p : Config.Params) (btn : Buttons) (s : State) : (loadTxbuf p btn s).abuf = s.abuf := rfl
@[simp] theorem loadTxbuf_cur (p : Config.Params) (btn : Buttons) (s : State) : (loadTxbuf p btn s).cur = s.cur := rfl
@[simp] theorem loadTxbuf_flatch (p : Config.Params) (btn : Buttons) (s : State) : (loadTxbuf p btn s).flatch = s.flatch := rfl
@[simp] theorem loadTxbuf_frdy (p : Config.Params) (btn : Buttons) (s : State) : (loadTxbuf p btn s).frdy = s.frdy := rfl
@[simp] theorem loadTxbuf_csumBad (p : Config.Params) (btn : Buttons) (s : State) : (loadTxbuf p btn s).csumBad = s.csumBad := rfl
@[simp] theorem loadTxbuf_linkHealth (p : Config.Params) (btn : Buttons) (s : State) : (loadTxbuf p btn s).linkHealth = s.linkHealth := rfl
@[simp] theorem loadTxbuf_telem (p : Config.Params) (btn : Buttons) (s : State) : (loadTxbuf p btn s).telem = s.telem := rfl
@[simp] theorem loadTxbuf_txbuf (p : Config.Params) (btn : Buttons) (s : State) : (loadTxbuf p btn s).txbuf = Memory.ofBytes (encodeFrame p btn) := rfl
@[simp] theorem loadTxbuf_txcur (p : Config.Params) (btn : Buttons) (s : State) : (loadTxbuf p btn s).txcur = s.txcur := rfl
@[simp] theorem loadTxbuf_page (p : Config.Params) (btn : Buttons) (s : State) : (loadTxbuf p btn s).page = s.page := rfl
@[simp] theorem loadTxbuf_initCplt (p : Config.Params) (btn : Buttons) (s : State) : (loadTxbuf p btn s).initCplt = s.initCplt := rfl
@[simp] theorem loadTxbuf_comboCnt (p : Config.Params) (btn : Buttons) (s : State) : (loadTxbuf p btn s).comboCnt = s.comboCnt := rfl
@[simp] theorem loadTxbuf_out (p : Config.Params) (btn : Buttons) (s : State) : (loadTxbuf p btn s).out = s.out := rfl
@[simp] theorem loadTxbuf_stim (p : Config.Params) (btn : Buttons) (s : State) : (loadTxbuf p btn s).stim = s.stim := rfl

/-! #### `advanceTx` -/

@[simp] theorem advanceTx_abuf (s : State) : (advanceTx s).abuf = s.abuf := rfl
@[simp] theorem advanceTx_cur (s : State) : (advanceTx s).cur = s.cur := rfl
@[simp] theorem advanceTx_flatch (s : State) : (advanceTx s).flatch = s.flatch := rfl
@[simp] theorem advanceTx_frdy (s : State) : (advanceTx s).frdy = s.frdy := rfl
@[simp] theorem advanceTx_csumBad (s : State) : (advanceTx s).csumBad = s.csumBad := rfl
@[simp] theorem advanceTx_linkHealth (s : State) : (advanceTx s).linkHealth = s.linkHealth := rfl
@[simp] theorem advanceTx_telem (s : State) : (advanceTx s).telem = s.telem := rfl
@[simp] theorem advanceTx_txbuf (s : State) : (advanceTx s).txbuf = s.txbuf := rfl
@[simp] theorem advanceTx_txcur (s : State) : (advanceTx s).txcur = nextTxcur s.txcur := rfl
@[simp] theorem advanceTx_page (s : State) : (advanceTx s).page = s.page := rfl
@[simp] theorem advanceTx_initCplt (s : State) : (advanceTx s).initCplt = s.initCplt := rfl
@[simp] theorem advanceTx_comboCnt (s : State) : (advanceTx s).comboCnt = s.comboCnt := rfl
@[simp] theorem advanceTx_out (s : State) : (advanceTx s).out = s.out := rfl
@[simp] theorem advanceTx_stim (s : State) : (advanceTx s).stim = s.stim := rfl

/-! #### `consumeFrame` -/

@[simp] theorem consumeFrame_abuf (s : State) : (consumeFrame s).abuf = s.abuf := rfl
@[simp] theorem consumeFrame_cur (s : State) : (consumeFrame s).cur = s.cur := rfl
@[simp] theorem consumeFrame_flatch (s : State) : (consumeFrame s).flatch = s.flatch := rfl
@[simp] theorem consumeFrame_frdy (s : State) : (consumeFrame s).frdy = false := rfl
@[simp] theorem consumeFrame_csumBad (s : State) : (consumeFrame s).csumBad = s.csumBad := rfl
@[simp] theorem consumeFrame_linkHealth (s : State) : (consumeFrame s).linkHealth = s.linkHealth := rfl
@[simp] theorem consumeFrame_telem (s : State) : (consumeFrame s).telem = s.telem := rfl
@[simp] theorem consumeFrame_txbuf (s : State) : (consumeFrame s).txbuf = s.txbuf := rfl
@[simp] theorem consumeFrame_txcur (s : State) : (consumeFrame s).txcur = s.txcur := rfl
@[simp] theorem consumeFrame_page (s : State) : (consumeFrame s).page = s.page := rfl
@[simp] theorem consumeFrame_initCplt (s : State) : (consumeFrame s).initCplt = s.initCplt := rfl
@[simp] theorem consumeFrame_comboCnt (s : State) : (consumeFrame s).comboCnt = s.comboCnt := rfl
@[simp] theorem consumeFrame_out (s : State) : (consumeFrame s).out = s.out := rfl
@[simp] theorem consumeFrame_stim (s : State) : (consumeFrame s).stim = s.stim := rfl

/-! #### `takeRule` -/

@[simp] theorem takeRule_abuf (r : PageRule) (new : Page) (ri : Bool) (s : State) : (takeRule r new ri s).abuf = s.abuf := rfl
@[simp] theorem takeRule_cur (r : PageRule) (new : Page) (ri : Bool) (s : State) : (takeRule r new ri s).cur = s.cur := rfl
@[simp] theorem takeRule_flatch (r : PageRule) (new : Page) (ri : Bool) (s : State) : (takeRule r new ri s).flatch = s.flatch := rfl
@[simp] theorem takeRule_frdy (r : PageRule) (new : Page) (ri : Bool) (s : State) : (takeRule r new ri s).frdy = s.frdy := rfl
@[simp] theorem takeRule_csumBad (r : PageRule) (new : Page) (ri : Bool) (s : State) : (takeRule r new ri s).csumBad = s.csumBad := rfl
@[simp] theorem takeRule_linkHealth (r : PageRule) (new : Page) (ri : Bool) (s : State) : (takeRule r new ri s).linkHealth = s.linkHealth := rfl
@[simp] theorem takeRule_telem (r : PageRule) (new : Page) (ri : Bool) (s : State) : (takeRule r new ri s).telem = s.telem := rfl
@[simp] theorem takeRule_txbuf (r : PageRule) (new : Page) (ri : Bool) (s : State) : (takeRule r new ri s).txbuf = s.txbuf := rfl
@[simp] theorem takeRule_txcur (r : PageRule) (new : Page) (ri : Bool) (s : State) : (takeRule r new ri s).txcur = s.txcur := rfl
@[simp] theorem takeRule_page (r : PageRule) (new : Page) (ri : Bool) (s : State) : (takeRule r new ri s).page = new := rfl
@[simp] theorem takeRule_initCplt (r : PageRule) (new : Page) (ri : Bool) (s : State) : (takeRule r new ri s).initCplt = s.initCplt := rfl
@[simp] theorem takeRule_comboCnt (r : PageRule) (new : Page) (ri : Bool) (s : State) : (takeRule r new ri s).comboCnt = s.comboCnt := rfl
@[simp] theorem takeRule_out (r : PageRule) (new : Page) (ri : Bool) (s : State) : (takeRule r new ri s).out = { s.out with pageRule := r, pageChanged := decide (new ≠ s.page), plClear := decide (new ≠ s.page), reinit := ri } := rfl
@[simp] theorem takeRule_stim (r : PageRule) (new : Page) (ri : Bool) (s : State) : (takeRule r new ri s).stim = s.stim := rfl

/-! #### `applyCnt` -/

@[simp] theorem applyCnt_abuf (modeSel modeAlt : Bool) (s : State) : (applyCnt modeSel modeAlt s).abuf = s.abuf := rfl
@[simp] theorem applyCnt_cur (modeSel modeAlt : Bool) (s : State) : (applyCnt modeSel modeAlt s).cur = s.cur := rfl
@[simp] theorem applyCnt_flatch (modeSel modeAlt : Bool) (s : State) : (applyCnt modeSel modeAlt s).flatch = s.flatch := rfl
@[simp] theorem applyCnt_frdy (modeSel modeAlt : Bool) (s : State) : (applyCnt modeSel modeAlt s).frdy = s.frdy := rfl
@[simp] theorem applyCnt_csumBad (modeSel modeAlt : Bool) (s : State) : (applyCnt modeSel modeAlt s).csumBad = s.csumBad := rfl
@[simp] theorem applyCnt_linkHealth (modeSel modeAlt : Bool) (s : State) : (applyCnt modeSel modeAlt s).linkHealth = s.linkHealth := rfl
@[simp] theorem applyCnt_telem (modeSel modeAlt : Bool) (s : State) : (applyCnt modeSel modeAlt s).telem = s.telem := rfl
@[simp] theorem applyCnt_txbuf (modeSel modeAlt : Bool) (s : State) : (applyCnt modeSel modeAlt s).txbuf = s.txbuf := rfl
@[simp] theorem applyCnt_txcur (modeSel modeAlt : Bool) (s : State) : (applyCnt modeSel modeAlt s).txcur = s.txcur := rfl
@[simp] theorem applyCnt_page (modeSel modeAlt : Bool) (s : State) : (applyCnt modeSel modeAlt s).page = s.page := rfl
@[simp] theorem applyCnt_initCplt (modeSel modeAlt : Bool) (s : State) : (applyCnt modeSel modeAlt s).initCplt = s.initCplt := rfl
@[simp] theorem applyCnt_comboCnt (modeSel modeAlt : Bool) (s : State) : (applyCnt modeSel modeAlt s).comboCnt = nextCombo modeSel modeAlt s.comboCnt := rfl
@[simp] theorem applyCnt_out (modeSel modeAlt : Bool) (s : State) : (applyCnt modeSel modeAlt s).out = s.out := rfl
@[simp] theorem applyCnt_stim (modeSel modeAlt : Bool) (s : State) : (applyCnt modeSel modeAlt s).stim = s.stim := rfl

/-! #### `setStim` -/

@[simp] theorem setStim_abuf (w : List (List Byte)) (s : State) : (setStim w s).abuf = s.abuf := rfl
@[simp] theorem setStim_cur (w : List (List Byte)) (s : State) : (setStim w s).cur = s.cur := rfl
@[simp] theorem setStim_flatch (w : List (List Byte)) (s : State) : (setStim w s).flatch = s.flatch := rfl
@[simp] theorem setStim_frdy (w : List (List Byte)) (s : State) : (setStim w s).frdy = s.frdy := rfl
@[simp] theorem setStim_csumBad (w : List (List Byte)) (s : State) : (setStim w s).csumBad = s.csumBad := rfl
@[simp] theorem setStim_linkHealth (w : List (List Byte)) (s : State) : (setStim w s).linkHealth = s.linkHealth := rfl
@[simp] theorem setStim_telem (w : List (List Byte)) (s : State) : (setStim w s).telem = s.telem := rfl
@[simp] theorem setStim_txbuf (w : List (List Byte)) (s : State) : (setStim w s).txbuf = s.txbuf := rfl
@[simp] theorem setStim_txcur (w : List (List Byte)) (s : State) : (setStim w s).txcur = s.txcur := rfl
@[simp] theorem setStim_page (w : List (List Byte)) (s : State) : (setStim w s).page = s.page := rfl
@[simp] theorem setStim_initCplt (w : List (List Byte)) (s : State) : (setStim w s).initCplt = s.initCplt := rfl
@[simp] theorem setStim_comboCnt (w : List (List Byte)) (s : State) : (setStim w s).comboCnt = s.comboCnt := rfl
@[simp] theorem setStim_out (w : List (List Byte)) (s : State) : (setStim w s).out = s.out := rfl
@[simp] theorem setStim_stim (w : List (List Byte)) (s : State) : (setStim w s).stim = w := rfl

/-! #### A buffer of the state -/

@[simp] theorem space_abuf (s : State) : s.space .abuf = s.abuf := rfl
@[simp] theorem space_flatch (s : State) : s.space .flatch = s.flatch := rfl
@[simp] theorem space_txbuf (s : State) : s.space .txbuf = s.txbuf := rfl
@[simp] theorem setSpace_abuf (s : State) (m : Memory) : s.setSpace .abuf m = { s with abuf := m } := rfl
@[simp] theorem setSpace_flatch (s : State) (m : Memory) : s.setSpace .flatch m = { s with flatch := m } := rfl
@[simp] theorem setSpace_txbuf (s : State) (m : Memory) : s.setSpace .txbuf m = { s with txbuf := m } := rfl

/-! #### Outcomes -/

@[simp] theorem ending_ok (s : State) : ending (.ok s) = .next s := rfl
@[simp] theorem ending_error (f : Fault) : ending (.error f) = .fault f := rfl
@[simp] theorem whenSelected_true (m : String) (r : Except Fault State) : whenSelected m true r = ending r := rfl
@[simp] theorem whenSelected_false (m : String) (r : Except Fault State) :
    whenSelected m false r = .refused (.caseNotSelected m) := rfl

end Sys2Proof.Machine
end

