-- ==== Sys2Proof/Laws/Assembler.lean ====
section
/-!
SUPPORT. What an RXBYTE event does, case by case: the four equations callers cite instead of unfolding it.
-/

namespace Sys2Proof.Machine

/-- An access by an index within the buffer does not fault. -/
theorem readAt_of_lt (sp : Space) (i : Nat) (s : State) (h : i < sp.size) :
    readAt sp i s = .ok ((s.space sp).read i) := if_pos h

/-- A store by an index within the buffer does not fault. -/
theorem writeAt_of_lt (sp : Space) (i : Nat) (b : Byte) (s : State) (h : i < sp.size) :
    writeAt sp i b s = .ok (s.setSpace sp ((s.space sp).write i b)) := if_pos h

theorem overflowing_iff (s : State) : overflowing s = true ↔ 39 ≤ s.cur.toNat := by
  exact decide_eq_true_iff

theorem atLastIndex_iff (s : State) : atLastIndex s = true ↔ s.cur.toNat = 38 := by
  exact decide_eq_true_iff

theorem isMarker_iff (b : Byte) : isMarker b = true ↔ b = 0x17 := by simp [isMarker]

/-- `ABUF[CUR] <- b` with a cursor inside the buffer. -/
theorem storeThen_of_lt (b : Byte) (f : State → State) (s : State) (h : s.cur.toNat < 39) :
    storeThen b f s = .ok (f { s with abuf := s.abuf.write s.cur.toNat b }) := by
  rw [storeThen, writeAt_of_lt _ _ _ _ (by simpa [storeIndex, Space.size] using h)]
  rfl

/-- RXBYTE before the last index stores (R142). -/
theorem rxbyteEvent_store (b : Byte) (s : State) (h : s.cur.toNat < 38) :
    rxbyteEvent b s = .ok { s with
      abuf := s.abuf.write s.cur.toNat b, cur := s.cur + 1,
      out := { Outputs.idle with rxOutcome := some .stored } } := by
  have h₁ : overflowing s = false := by rw [← Bool.not_eq_true, overflowing_iff]; omega
  have h₂ : atLastIndex (clearOut s) = false := by rw [← Bool.not_eq_true, atLastIndex_iff, clearOut_cur]; omega
  rw [rxbyteEvent, h₁, if_neg (by simp), rxCase, h₂, if_pos (by simp),
    storeThen_of_lt _ _ _ (by rw [clearOut_cur]; omega)]
  rfl

/-- RXBYTE of the marker at the last index completes the frame (R143). -/
theorem rxbyteEvent_complete (s : State) (h : s.cur.toNat = 38) :
    rxbyteEvent 0x17 s = .ok { s with
      abuf := [], cur := 0, flatch := Memory.ofBytes ((s.abuf.write 38 0x17).bytes 0 39), frdy := true,
      out := { Outputs.idle with rxOutcome := some .complete } } := by
  have h₁ : overflowing s = false := by rw [← Bool.not_eq_true, overflowing_iff]; omega
  have h₂ : atLastIndex (clearOut s) = true := by rw [atLastIndex_iff, clearOut_cur]; exact h
  rw [rxbyteEvent, h₁, if_neg (by simp), rxCase, h₂, if_neg (by simp), if_pos (by decide),
    storeThen_of_lt _ _ _ (by rw [clearOut_cur]; omega), clearOut_cur, h]
  rfl

/-- RXBYTE of any other byte at the last index discards the window (R144). -/
theorem rxbyteEvent_desync (b : Byte) (s : State) (h : s.cur.toNat = 38) (hb : b ≠ 0x17) :
    rxbyteEvent b s = .ok { s with
      abuf := [], cur := 0,
      out := { Outputs.idle with rxOutcome := some .desync, raised := [.frameDesync] } } := by
  have h₁ : overflowing s = false := by rw [← Bool.not_eq_true, overflowing_iff]; omega
  have h₂ : atLastIndex (clearOut s) = true := by rw [atLastIndex_iff, clearOut_cur]; exact h
  have h₃ : isMarker b = false := by rw [← Bool.not_eq_true, isMarker_iff]; exact hb
  rw [rxbyteEvent, h₁, if_neg (by simp), rxCase, h₂, if_neg (by simp), h₃, if_neg (by simp),
    storeThen_of_lt _ _ _ (by rw [clearOut_cur]; omega)]
  rfl

/-- RXBYTE at a cursor beyond the buffer restarts the window (R141). -/
theorem rxbyteEvent_overflow (b : Byte) (s : State) (h : 39 ≤ s.cur.toNat) :
    rxbyteEvent b s = .ok { s with
      abuf := Memory.zeros.write 0 b, cur := 1,
      out := { Outputs.idle with rxOutcome := some .stored, rxOverflow := true, raised := [.bufferOverflow] } } := by
  rw [rxbyteEvent, (overflowing_iff s).mpr h, if_pos rfl, rxCase, if_pos (by rfl),
    storeThen_of_lt b _ (overflowReset (clearOut s)) (show (0 : ℕ) < 39 by decide)]
  rfl

/-- An RXBYTE event always ends, and writes nothing but the assembler, the latch, its flag and the outputs. -/
theorem rxbyteEvent_ok (b : Byte) (s : State) : ∃ t, rxbyteEvent b s = .ok t ∧
    t = { s with abuf := t.abuf, cur := t.cur, flatch := t.flatch, frdy := t.frdy, out := t.out } := by
  rcases Nat.lt_trichotomy s.cur.toNat 38 with h | h | h
  · exact ⟨_, rxbyteEvent_store b s h, rfl⟩
  · by_cases hb : b = 0x17
    · subst hb; exact ⟨_, rxbyteEvent_complete s h, rfl⟩
    · exact ⟨_, rxbyteEvent_desync b s h hb, rfl⟩
  · exact ⟨_, rxbyteEvent_overflow b s h, rfl⟩

end Sys2Proof.Machine
end

