-- ==== Sys2Proof/Laws/Encoding.lean ====
section
/-!
SUPPORT. The laws of the encodings: lengths, little-endian numbers, and the fields of the frames.
-/

namespace Sys2Proof

@[simp] theorem length_leBytes (n v : Nat) : (leBytes n v).length = n := by
  induction n generalizing v with
  | zero => rfl
  | succ n ih => simp [leBytes, ih]

/-- `MemRead` inverts `MemWrite` (R10, R124). -/
theorem leNat_leBytes (n v : Nat) : leNat (leBytes n v) = v % 256 ^ n := by
  induction n generalizing v with
  | zero => simp [leBytes, leNat, Nat.mod_one]
  | succ n ih =>
    simp only [leBytes, leNat, ih, BitVec.toNat_ofNat]
    rw [show (2 : ℕ) ^ 8 = 256 by norm_num, Nat.pow_succ', Nat.mod_mul]

/-- Reading the bytes just written gives the value back. -/
theorem ofNat_leNat_leBytes {n : Nat} (v : BitVec (8 * n)) :
    BitVec.ofNat (8 * n) (leNat (leBytes n v.toNat)) = v := by
  have h : v.toNat < 256 ^ n := by
    have := v.isLt
    rwa [Nat.pow_mul, show (2 : ℕ) ^ 8 = 256 by norm_num] at this
  rw [leNat_leBytes, Nat.mod_eq_of_lt h, BitVec.ofNat_toNat, BitVec.setWidth_eq]

@[simp] theorem length_eventWord (ev : BitVec 3) (data : Byte) (inputs : BitVec 12) :
    (eventWord ev data inputs).length = 4 := rfl

@[simp] theorem length_ctrlBytes (btn : Buttons) (c : Byte) : (ctrlBytes btn c).length = 11 := by
  simp [ctrlBytes, ctrlBody]

@[simp] theorem length_telemPayload (t : Telem) : (telemPayload t).length = 37 := by simp [telemPayload]

@[simp] theorem length_telemBytes (t : Telem) (c : Byte) : (telemBytes t c).length = 39 := by simp [telemBytes]

/-- A flag's byte is 0x01 or 0x00 (R94). -/
theorem flagByte_eq (f : Bool) : flagByte f = if f then 0x01 else 0x00 := by cases f <;> rfl

/-- The input vector and the inputs are the same information (R106). -/
@[simp] theorem ofBits_toBits (i : TickInputs) : TickInputs.ofBits i.toBits = i := by
  obtain ⟨⟨a, b, c, d, e, f, g, h, k⟩, l, m, n⟩ := i
  simp only [TickInputs.ofBits, TickInputs.toBits, BitVec.getLsbD_ofBoolListLE]
  rfl

end Sys2Proof
end

