-- ==== Sys2Proof/Laws/Pages.lean ====
section
/-!
SUPPORT. What PAGEEVAL does: the guards in words, and the first rule that matches for each page and flags.
-/

namespace Sys2Proof.Machine

theorem leak_iff (s : State) : leak s = true ↔ s.telem.h2Leak ≠ 0x00 := by simp [leak, asserted]

theorem emerg_iff (s : State) : emerg s = true ↔ s.telem.emergency ≠ 0x00 := by simp [emerg, asserted]

@[simp] theorem leak_applyCnt (sel alt : Bool) (s : State) : leak (applyCnt sel alt s) = leak s := rfl

@[simp] theorem emerg_applyCnt (sel alt : Bool) (s : State) : emerg (applyCnt sel alt s) = emerg s := rfl

/-- PAGEEVAL in `Init` is P0 (R192). -/
theorem pageeval_init (sel alt done : Bool) (s : State) (h : s.page = .init) :
    pageeval sel alt done s = applyP0 done s := by simp [pageeval, h]

/-- PAGEEVAL outside `Init` is CNT and then the first rule that matches (R190). -/
theorem pageeval_of_ne_init (sel alt done : Bool) (s : State) (h : s.page ≠ .init) :
    pageeval sel alt done s =
      applyRule (firstRule sel alt (applyCnt sel alt s)) (applyCnt sel alt s) := by simp [pageeval, h]

/-- The rule that matches outside `Init`, by leak, page and emergency; P5 is not among them (R205). -/
theorem firstRule_eq (sel alt : Bool) (s : State) (h : s.page ≠ .init) :
    firstRule sel alt s =
      if leak s then .p1
      else match s.page, emerg s with
        | .init, _ => .none
        | .leak, false => .p2
        | .leak, true => .p3
        | .mode1, true => .p3
        | .emergency, false => .p4
        | .mode1, false => if comboFull s then .p6 else .none
        | .emergency, true => if comboFull s then .p6 else .none := by
  unfold firstRule guardP1 guardP2 guardP3 guardP4 guardP5
  cases hl : leak s <;> cases he : emerg s <;> cases hp : s.page <;> simp_all

/-- PAGEEVAL writes nothing but the page controller's state and its outputs. -/
theorem pageeval_frame (sel alt done : Bool) (s : State) :
    pageeval sel alt done s = { s with
      page := (pageeval sel alt done s).page, initCplt := (pageeval sel alt done s).initCplt,
      comboCnt := (pageeval sel alt done s).comboCnt,
      out := { s.out with
        pageRule := (pageeval sel alt done s).out.pageRule
        pageChanged := (pageeval sel alt done s).out.pageChanged
        plClear := (pageeval sel alt done s).out.plClear
        reinit := (pageeval sel alt done s).out.reinit } } := by
  by_cases h : s.page = .init
  · rw [pageeval_init sel alt done s h]
    unfold applyP0
    split <;> rfl
  · rw [pageeval_of_ne_init sel alt done s h]
    generalize firstRule sel alt (applyCnt sel alt s) = r
    cases r <;> rfl

end Sys2Proof.Machine
end

