-- ==== Sys2Proof/Laws/Parameters.lean ====
section
/-!
SUPPORT. The machine with its parameters as arguments is `exec`, `step` and `run` at the hardware's own (R78).
-/

namespace Sys2Proof.Machine

/-- At the hardware's own parameters an operation is `exec` of it. -/
theorem execWith_params : execWith Config.params = exec := by
  funext i s
  cases i <;> rfl

theorem stepWith_params : stepWith Config.params = step := by
  funext s
  rw [stepWith, execWith_params, step]

theorem runWith_params : runWith Config.params = run := by
  funext is s
  rw [runWith, execWith_params, run]

end Sys2Proof.Machine
end

