-- ==== Sys2Proof/Laws/PerInstr.lean ====
section
/-!
SUPPORT. Facts stated of every instruction, one lemma per constructor.
-/

namespace Sys2Proof.Laws.WordShape

/-- The word of an instruction has the length of an event word, a ControlFrame or a TelemetryFrame (R90, R97, R105), and
belongs to the same event as the instruction. -/
def Statement (i : Instr) : Prop :=
  ((encode i).length = 4 ∨ (encode i).length = 11 ∨ (encode i).length = 39) ∧
    eventOf (eventOf i).instr = eventOf i

theorem ctrlframe (btn : Buttons) (checksum : Byte) : Statement (.ctrlframe btn checksum) := ⟨.inr (.inl (length_ctrlBytes btn checksum)), rfl⟩

theorem telemframe (fields : Telem) (checksum : Byte) : Statement (.telemframe fields checksum) := ⟨.inr (.inr (length_telemBytes fields checksum)), rfl⟩

theorem reset : Statement (.reset) := ⟨.inl rfl, rfl⟩

theorem rxbyte (b : Byte) : Statement (.rxbyte b) := ⟨.inl rfl, rfl⟩

theorem rxbyteOverflow (b : Byte) : Statement (.rxbyteOverflow b) := ⟨.inl rfl, rfl⟩

theorem rxbyteStore (b : Byte) : Statement (.rxbyteStore b) := ⟨.inl rfl, rfl⟩

theorem rxbyteComplete (b : Byte) : Statement (.rxbyteComplete b) := ⟨.inl rfl, rfl⟩

theorem rxbyteDesync (b : Byte) : Statement (.rxbyteDesync b) := ⟨.inl rfl, rfl⟩

theorem tick (inputs : TickInputs) : Statement (.tick inputs) := ⟨.inl rfl, rfl⟩

theorem txstep (btn : Buttons) : Statement (.txstep btn) := ⟨.inl rfl, rfl⟩

theorem txstepLoad (btn : Buttons) : Statement (.txstepLoad btn) := ⟨.inl rfl, rfl⟩

theorem txstepSend : Statement (.txstepSend) := ⟨.inl rfl, rfl⟩

theorem txstepGap : Statement (.txstepGap) := ⟨.inl rfl, rfl⟩

theorem rxpoll : Statement (.rxpoll) := ⟨.inl rfl, rfl⟩

theorem rxpollIdle : Statement (.rxpollIdle) := ⟨.inl rfl, rfl⟩

theorem rxpollValidate : Statement (.rxpollValidate) := ⟨.inl rfl, rfl⟩

theorem rxpollAccept : Statement (.rxpollAccept) := ⟨.inl rfl, rfl⟩

theorem rxpollReject : Statement (.rxpollReject) := ⟨.inl rfl, rfl⟩

theorem pageeval (modeSel modeAlt initSeqDone : Bool) : Statement (.pageeval modeSel modeAlt initSeqDone) := ⟨.inl rfl, rfl⟩

theorem pageevalP0 (initSeqDone : Bool) : Statement (.pageevalP0 initSeqDone) := ⟨.inl rfl, rfl⟩

theorem pageevalCnt (modeSel modeAlt : Bool) : Statement (.pageevalCnt modeSel modeAlt) := ⟨.inl rfl, rfl⟩

theorem pageevalP1 : Statement (.pageevalP1) := ⟨.inl rfl, rfl⟩

theorem pageevalP2 : Statement (.pageevalP2) := ⟨.inl rfl, rfl⟩

theorem pageevalP3 : Statement (.pageevalP3) := ⟨.inl rfl, rfl⟩

theorem pageevalP4 : Statement (.pageevalP4) := ⟨.inl rfl, rfl⟩

theorem pageevalP5 (modeSel modeAlt : Bool) : Statement (.pageevalP5 modeSel modeAlt) := ⟨.inl rfl, rfl⟩

theorem pageevalP6 (modeSel modeAlt : Bool) : Statement (.pageevalP6 modeSel modeAlt) := ⟨.inl rfl, rfl⟩

theorem pageevalNone (modeSel modeAlt : Bool) : Statement (.pageevalNone modeSel modeAlt) := ⟨.inl rfl, rfl⟩

theorem encode (btn : Buttons) : Statement (.encode btn) := ⟨.inl rfl, rfl⟩

theorem decode (bytes : List Byte) : Statement (.decode bytes) := ⟨.inl rfl, rfl⟩

theorem csum (bytes : List Byte) : Statement (.csum bytes) := ⟨.inl rfl, rfl⟩

end Sys2Proof.Laws.WordShape
end

