-- ==== Sys2Proof/Laws/Runs.lean ====
section
/-!
SUPPORT. Runs: one operation at a time, and runs one after the other.
-/

namespace Sys2Proof.Machine

@[simp] theorem run_nil (s : State) : run [] s = .next s := rfl

/-- An operation that completes hands its state to the rest of the run. -/
theorem run_cons_next {i : Instr} {s t : State} (is : List Instr) (h : exec i s = .next t) :
    run (i :: is) s = run is t := by
  simp only [run, runBy, h]

/-- A run of one operation is that operation. -/
@[simp] theorem run_singleton (i : Instr) (s : State) : run [i] s = exec i s := by
  simp only [run, runBy]
  cases exec i s <;> rfl

/-- Runs compose. -/
theorem run_append {is : List Instr} {s t : State} (js : List Instr) (h : run is s = .next t) :
    run (is ++ js) s = run js t := by
  induction is generalizing s with
  | nil =>
    injection h with h
    rw [List.nil_append, h]
  | cons i is ih =>
    simp only [run, runBy, List.cons_append] at h ⊢
    cases hx : exec i s with
    | next u => rw [hx] at h; exact ih h
    | fault f => rw [hx] at h; cases h
    | refused r => rw [hx] at h; cases h

/-- The outcome records of runs compose. -/
theorem outcomes_append {is : List Instr} {s t : State} (js : List Instr) (h : run is s = .next t) :
    outcomes (is ++ js) s = outcomes is s ++ outcomes js t := by
  induction is generalizing s with
  | nil =>
    injection h with h
    rw [List.nil_append, h]
    rfl
  | cons i is ih =>
    simp only [run, runBy, List.cons_append, outcomes] at h ⊢
    cases hx : exec i s with
    | next u => rw [hx] at h; exact congrArg (u.out :: ·) (ih h)
    | fault f => rw [hx] at h; cases h
    | refused r => rw [hx] at h; cases h

end Sys2Proof.Machine
end

