-- ==== Sys2Proof/Laws/Scheduler.lean ====
section
/-!
SUPPORT. What TXSTEP and RXPOLL do, case by case.
-/

namespace Sys2Proof.Machine

/-- SEND inside the frame hands the byte over (R163). -/
theorem sendByte_of_lt (s : State) (h : s.txcur.val < 11) :
    sendByte s = .ok { s with
      txcur := nextTxcur s.txcur, out := { s.out with txValid := true, txData := s.txbuf.read s.txcur.val } } := by
  rw [sendByte, readAt_of_lt _ _ _ (by simpa [txIndex, Space.size] using h)]
  rfl

/-- TXSTEP at the start of the schedule loads and sends byte 0 (R162). -/
theorem txstep_load (p : Config.Params) (btn : Buttons) (s : State) (h : s.txcur.val = 0) :
    txstep p btn s = sendByte (loadTxbuf p btn s) := by
  simp [txstep, txIndex, h]

/-- TXSTEP inside the frame sends (R163). -/
theorem txstep_send (p : Config.Params) (btn : Buttons) (s : State) (h : s.txcur.val ≠ 0) (h' : s.txcur.val < 11) :
    txstep p btn s = sendByte s := by
  simp [txstep, txIndex, h, h']

/-- TXSTEP after the frame sends nothing (R164). -/
theorem txstep_gap (p : Config.Params) (btn : Buttons) (s : State) (h : 11 ≤ s.txcur.val) :
    txstep p btn s = .ok (idleGap s) := by
  have h₀ : s.txcur.val ≠ 0 := by omega
  have h₁ : ¬s.txcur.val < 11 := by omega
  simp [txstep, txIndex, h₀, h₁]

/-- TXSTEP always ends, and writes nothing but the transmit side and its outputs. -/
theorem txstep_ok (p : Config.Params) (btn : Buttons) (s : State) : ∃ t, txstep p btn s = .ok t ∧
    t = { s with
      txbuf := t.txbuf, txcur := nextTxcur s.txcur,
      out := { s.out with txValid := t.out.txValid, txData := t.out.txData } } := by
  by_cases h₀ : s.txcur.val = 0
  · exact ⟨_, by rw [txstep_load p btn s h₀, sendByte_of_lt _ (by rw [loadTxbuf_txcur]; omega)], rfl⟩
  · by_cases h₁ : s.txcur.val < 11
    · exact ⟨_, by rw [txstep_send p btn s h₀ h₁, sendByte_of_lt s h₁], rfl⟩
    · exact ⟨_, txstep_gap p btn s (by omega), rfl⟩

/-- RXPOLL writes nothing but TELEM, the status bits, the flag and its outputs. -/
theorem rxpoll_frame (p : Config.Params) (s : State) :
    rxpoll p s = { s with
      telem := (rxpoll p s).telem, linkHealth := (rxpoll p s).linkHealth, csumBad := (rxpoll p s).csumBad,
      frdy := false, out := (rxpoll p s).out } := by
  unfold rxpoll
  split
  · unfold validate
    split
    · unfold validateReject recordChecksum; split <;> rfl
    · unfold validateAccept recordChecksum; split <;> rfl
  · rename_i h
    have h' : s.frdy = false := by simpa using h
    rw [← h']; rfl

theorem rejects_iff (p : Config.Params) (s : State) :
    rejects p s = true ↔ p.csum (s.flatch.bytes 0 37) ≠ s.flatch.read 37 ∧ p.policy = .verifyReject := by
  simp [rejects, checksumBad]

end Sys2Proof.Machine
end

