-- ==== Sys2Proof/Machine/Trace.lean ====
section
/-!
DEFINITION. The event trace of rules R106 and R107: its lines as data, and the stimulus words each line stands for.
-/

namespace Sys2Proof.Machine

/-- A line of a trace (R106), or a pseudo-operation (R107). -/
inductive TraceLine where
  | reset
  | rx (b : Byte)
  | tick (inputs : TickInputs)
  | rxSeq (bytes : List Byte)
  | rxFrame (bytes : List Byte)
  | ticks (n : Nat) (inputs : TickInputs)
  deriving DecidableEq, Repr

/-- `TELEMFRAME!{…}` (R107): the sender's frame with its checksum byte complemented in bit 0. -/
def brokenFrame (p : Config.Params) (t : Telem) : List Byte := telemBytes t (p.csum (telemPayload t) ^^^ 0x01)

/-- The word of an `RX` line. -/
def rxWord (b : Byte) : List Byte := (Event.rxbyte b).word

/-- The stimulus words of a line; `RXFRAME` takes exactly 39 bytes (R107). -/
def TraceLine.words : TraceLine → Option (List (List Byte))
  | .reset => some [Event.reset.word]
  | .rx b => some [rxWord b]
  | .tick inputs => some [(Event.tick inputs).word]
  | .rxSeq bytes => some (bytes.map rxWord)
  | .rxFrame bytes => if bytes.length = Config.RX_LEN then some (bytes.map rxWord) else none
  | .ticks n inputs => some (List.replicate n (Event.tick inputs).word)

end Sys2Proof.Machine
end

