-- ==== Sys2Proof/Tests/Slice0.lean ====
section
/-!
SUPPORT. Tests. Expected values are those of 95_test_vectors.md (named V-…, S1, program A to E) or are counted by hand from
the rule named; the words of the decode tests are written out from the encodings of R91, R92, R97 and R106. The last
part gives, for every statement with hypotheses, states and operands that meet them together.
-/

namespace Sys2Proof.Tests

open Sys2Proof Sys2Proof.Machine

/-! ### Helpers -/

/-- What is seen of the next state, if there is one. -/
def seen {α : Type} (o : Host.Outcome State Fault Refusal) (f : State → α) : Option α :=
  match o with
  | .next s => some (f s)
  | .fault _ => none
  | .refused _ => none

/-- Whether a case was turned away under this name. -/
def turnedAway (o : Host.Outcome State Fault Refusal) (name : String) : Bool :=
  match o with
  | .refused r => decide (r = .caseNotSelected name)
  | .next _ => false
  | .fault _ => false

/-- `CSUM_T`, the stand-in checksum of 95_test_vectors.md section 0. -/
def csumT (bytes : List Byte) : Byte := bytes.foldl (fun acc b => acc.rotateLeft 1 ^^^ b) 0x00

/-- The parameters under which the vectors' concrete bytes were computed. -/
def paramsT (policy : Config.CsumPolicy) : Config.Params := ⟨csumT, policy⟩

/-- `n` bytes 00. -/
def zeros (n : Nat) : List Byte := List.replicate n 0x00

/-- The reset state with another cursor, and one byte in the assembler. -/
def atCursor (cur : BitVec 6) : State := { State.reset with cur := cur, abuf := [(0, 0x41)] }

/-- The reset state with another schedule position. -/
def atTx (c : Fin 22) : State := { State.reset with txcur := c, txbuf := [(0, 0x01), (9, 0x17), (10, 0x75)] }

/-- The start states of section 2.5: page, count, leak and emergency byte; the schedule stands in the gap. -/
def onPage (page : Page) (count : Fin 6) (leakByte emergByte : Byte) : State :=
  { State.reset with
    page := page, initCplt := decide (page ≠ .init), comboCnt := count, txcur := 11,
    telem := { telemZero with h2Leak := leakByte, emergency := emergByte } }

/-- A state with a latched frame of zeros but for these entries. -/
def withLatch (entries : Memory) : State := { State.reset with flatch := entries, frdy := true }

/-- A pending frame of zeros with the hardware's own checksum. -/
def rightFrame : State := withLatch [(37, Config.csum (zeros 37)), (38, 0x17)]

/-- The same frame with another checksum byte. -/
def wrongFrame : State := withLatch [(37, Config.csum (zeros 37) + 1), (38, 0x17)]

/-- The reset state with these stimuli to come. -/
def withStim (words : List (List Byte)) : State := { State.reset with stim := words }

/-- `page_rule` and what 2.5's table shows of a TICK with these inputs. -/
def pageRow (sel alt done : Bool) (s : State) : Option (List Nat) :=
  seen (exec (.tick { TickInputs.none with modeSel := sel, modeAlt := alt, initSeqDone := done }) s) fun t =>
    [t.out.pageRule.code.toNat, t.page.code.toNat, t.comboCnt.val, t.out.pageChanged.toNat, t.out.reinit.toNat]

/-! ### WellFormed: each check refuses an ill-formed term -/

theorem test_wellFormed_complete : WellFormed (.rxbyteComplete 0x16) = false ∧ WellFormed (.rxbyteComplete 0x17) = true := by
  decide

theorem test_wellFormed_desync : WellFormed (.rxbyteDesync 0x17) = false ∧ WellFormed (.rxbyteDesync 0x16) = true := by
  decide

theorem test_wellFormed_decode :
    WellFormed (.decode (zeros 38)) = false ∧ WellFormed (.decode (zeros 40)) = false ∧
      WellFormed (.decode (zeros 39)) = true := by decide

/-! ### Decoding: words written out from the spec's encodings -/

/-- R97: `EV = 1xx`. -/
theorem test_decode_reset :
    decode [0b100, 0x00, 0x00, 0x00] = .ok .reset ∧ decode [0b111, 0x41, 0xFF, 0x0F] = .ok .reset := by decide

/-- R97: `EV = 001`, and `EV = 011` with the same clock's TICK kept. -/
theorem test_decode_rxbyte :
    decode [0b001, 0x17, 0x00, 0x00] = .ok (.rxbyte 0x17) ∧
    decodeStim [0b011, 0x17, 0x00, 0x08] = .ok ⟨some (.rxbyte 0x17), some [0b010, 0x17, 0x00, 0x08]⟩ := by decide

/-- R106 and section 0's table: `102` is `fullGas fuelcellRace`, `E00` is `modeSel modeAlt init_seq_done`. -/
theorem test_decode_tick :
    decode [0b010, 0x00, 0x02, 0x01] = .ok (.tick
      ⟨⟨false, true, false, false, false, false, false, false, true⟩, false, false, false⟩) ∧
    decode [0b010, 0x00, 0x00, 0x0E] = .ok (.tick
      ⟨⟨false, false, false, false, false, false, false, false, false⟩, true, true, true⟩) := by decide

/-- R91: the scenario S1's frame, byte by byte. -/
theorem test_decode_ctrlframe :
    decode [0x01, 0x00, 0x00, 0x01, 0x01, 0x00, 0x00, 0x00, 0x00, 0x17, 0x75] =
      .ok (.ctrlframe ⟨true, false, false, true, true, false, false, false, false⟩ 0x75) ∧
    decode [0x02, 0x00, 0x00, 0x01, 0x01, 0x00, 0x00, 0x00, 0x00, 0x17, 0x75] = .error (.flagByte 0) := by decide

/-- R92: program A's frame, byte by byte. -/
theorem test_decode_telemframe :
    decode [0x2A, 0x25, 0x01, 0x00, 0x17, 0xC8, 0x01, 0x00, 0x00, 0x34, 0x42, 0x00, 0x00, 0x00, 0x00, 0xB8, 0x0B,
      0x00, 0x00, 0x00, 0x00, 0x00, 0x00, 0x00, 0x00, 0x00, 0x50, 0x00, 0x00, 0x00, 0x00, 0x00, 0x00, 0x00, 0x00,
      0x00, 0x00, 0xF2, 0x17] =
      .ok (.telemframe ⟨0x2A, 0x25, 0x0001, 0x17, 0x01C8, 0x42340000, 0, 3000, 0, 0, 0, 0x50, 0, 0, 0, 0⟩ 0xF2) := by
  decide

/-- R98: the rows of RXBYTE's cases share its word; each word written out. -/
theorem test_decode_rxbyte_cases :
    encode (.rxbyteOverflow 0x55) = [0b001, 0x55, 0x00, 0x00] ∧ encode (.rxbyteStore 0x41) = [0b001, 0x41, 0x00, 0x00] ∧
    encode (.rxbyteComplete 0x17) = [0b001, 0x17, 0x00, 0x00] ∧ encode (.rxbyteDesync 0x16) = [0b001, 0x16, 0x00, 0x00] ∧
    decode [0b001, 0x55, 0x00, 0x00] = .ok (.rxbyte 0x55) := by decide

/-- R98: the rows of TXSTEP, RXPOLL and the codec functions share TICK's word; buttons at bits 8 to 0 of the vector. -/
theorem test_decode_link_cases :
    encode (.txstep ⟨true, false, false, true, true, false, false, false, false⟩) = [0b010, 0x00, 0x19, 0x00] ∧
    encode (.txstepLoad ⟨false, true, false, false, false, false, false, false, true⟩) = [0b010, 0x00, 0x02, 0x01] ∧
    encode .txstepSend = [0b010, 0x00, 0x00, 0x00] ∧ encode .txstepGap = [0b010, 0x00, 0x00, 0x00] ∧
    encode .rxpoll = [0b010, 0x00, 0x00, 0x00] ∧ encode .rxpollIdle = [0b010, 0x00, 0x00, 0x00] ∧
    encode .rxpollValidate = [0b010, 0x00, 0x00, 0x00] ∧ encode .rxpollAccept = [0b010, 0x00, 0x00, 0x00] ∧
    encode .rxpollReject = [0b010, 0x00, 0x00, 0x00] ∧ encode (.decode (zeros 39)) = [0b010, 0x00, 0x00, 0x00] ∧
    encode (.csum []) = [0b010, 0x00, 0x00, 0x00] ∧
    encode (.encode ⟨false, false, true, false, false, false, false, false, false⟩) = [0b010, 0x00, 0x04, 0x00] ∧
    decode [0b010, 0x00, 0x04, 0x00] = .ok (.tick { TickInputs.none with
      btn := ⟨false, false, true, false, false, false, false, false, false⟩ }) := by decide

/-- R98: the rows of PAGEEVAL share TICK's word; `modeSel` is bit 9 of the vector, `modeAlt` bit 10, `init_seq_done` bit
11. -/
theorem test_decode_page_cases :
    encode (.pageeval true true true) = [0b010, 0x00, 0x00, 0x0E] ∧ encode (.pageevalP0 true) = [0b010, 0x00, 0x00, 0x08] ∧
    encode (.pageevalCnt true false) = [0b010, 0x00, 0x00, 0x02] ∧ encode .pageevalP1 = [0b010, 0x00, 0x00, 0x00] ∧
    encode .pageevalP2 = [0b010, 0x00, 0x00, 0x00] ∧ encode .pageevalP3 = [0b010, 0x00, 0x00, 0x00] ∧
    encode .pageevalP4 = [0b010, 0x00, 0x00, 0x00] ∧ encode (.pageevalP5 true false) = [0b010, 0x00, 0x00, 0x02] ∧
    encode (.pageevalP6 true true) = [0b010, 0x00, 0x00, 0x06] ∧
    encode (.pageevalNone false true) = [0b010, 0x00, 0x00, 0x04] ∧
    decode [0b010, 0x00, 0x00, 0x06] =
      .ok (.tick { TickInputs.none with modeSel := true, modeAlt := true }) := by decide

/-- The opcode table's numbering: byte 0 lowest, the marker at bits 79:72 and 311:304. -/
theorem test_decode_table_words :
    decodeTableWord 88 0x0017000000000000000000 = some (.ctrlframe
      ⟨false, false, false, false, false, false, false, false, false⟩ 0x00) ∧
    decodeTableWord 312 0x170000000000000000000000000000000000000000000000000000000000000000000000000000 =
      some (.telemframe telemZero 0x00) ∧
    decodeTableWord 312 0 = none := by decide

theorem test_decode_refuses : decode [] = .error (.badLength 0) ∧ decode [0, 0, 0, 0] = .error .noEvent := by decide

/-! ### FrameCodec -/

/-- S1, V-E2 and V-E3's `horn`, with `CSUM_T`. -/
theorem test_encode_vectors :
    encodeFrame (paramsT .verifyReject) ⟨true, false, false, true, true, false, false, false, false⟩ =
      [0x01, 0x00, 0x00, 0x01, 0x01, 0x00, 0x00, 0x00, 0x00, 0x17, 0x75] ∧
    encodeFrame (paramsT .verifyReject) ⟨true, true, true, true, true, true, true, true, true⟩ =
      [0x01, 0x01, 0x01, 0x01, 0x01, 0x01, 0x01, 0x01, 0x01, 0x17, 0xEA] ∧
    encodeFrame (paramsT .verifyReject) ⟨false, false, true, false, false, false, false, false, false⟩ =
      [0x00, 0x00, 0x01, 0x00, 0x00, 0x00, 0x00, 0x00, 0x00, 0x17, 0x97] := by decide

/-- V-D1's payload. -/
def countingPayload : List Byte := (List.range 37).map fun i => BitVec.ofNat 8 (i + 1)

/-- V-D1's table. -/
def countingTelem : Telem :=
  ⟨0x01, 0x02, 0x0403, 0x05, 0x0706, 0x0B0A0908, 0x0F0E0D0C, 0x1110, 0x15141312, 0x19181716, 0x1A, 0x1B, 0x1F1E1D1C,
    0x23222120, 0x24, 0x25⟩

/-- V-D1 and V-D5. -/
theorem test_decode_vectors :
    decodeFrame (countingPayload ++ [0xE6, 0x17]) = some countingTelem ∧
      decodeFrame (countingPayload ++ [0x00, 0x00]) = some countingTelem := by decide

/-- V-D1's checksum, and the hand check of section 0. -/
theorem test_csum_vectors :
    csumT countingPayload = 0xE6 ∧ csumT [0x01, 0x00, 0x00, 0x01, 0x01, 0x00, 0x00, 0x00, 0x00, 0x17] = 0x75 := by decide +kernel

theorem test_decode_function_refuses (s : State) : exec (.decode (zeros 38)) s = .refused (.decodeLength 38) := rfl

/-! ### LinkAssembler -/

/-- V-A1. -/
theorem test_rxbyte_stores :
    seen (exec (.rxbyte 0x41) State.reset) (fun t =>
      (t.abuf.read 0, t.cur, t.out.rxOutcome, t.out.rxOverflow, t.frdy)) =
      some (0x41, 1, some .stored, false, false) := by decide

/-- V-A3: the last byte. -/
theorem test_rxbyte_completes :
    seen (exec (.rxbyte 0x17) (atCursor 38)) (fun t =>
      (t.flatch.bytes 36 3, t.cur, t.out.rxOutcome, t.frdy)) =
      some ([0x00, 0x00, 0x17], 0, some .complete, true) := by decide

/-- V-A4 and V-A9: the last byte, with a frame pending. -/
theorem test_rxbyteDesync :
    seen (exec (.rxbyteDesync 0x16) { atCursor 38 with flatch := [(0, 0x01)], frdy := true }) (fun t =>
      (t.flatch.read 0, t.cur, t.out.raised, t.frdy)) = some (0x01, 0, [.frameDesync], true) := by decide

/-- V-A8. -/
theorem test_rxbyteOverflow :
    seen (exec (.rxbyteOverflow 0x17) (atCursor 63)) (fun t =>
      (t.abuf, t.cur, t.out.rxOutcome, t.out.rxOverflow)) = some ([(0, 0x17)], 1, some .stored, true) := by decide

/-- V-A5: the marker at index 37 is data. -/
theorem test_rxbyteStore :
    seen (exec (.rxbyteStore 0x17) (atCursor 37)) (fun t => (t.abuf.read 37, t.cur)) = some (0x17, 38) := by decide

/-- V-A6: marker bytes only, the 39th. -/
theorem test_rxbyteComplete :
    seen (exec (.rxbyteComplete 0x17) { atCursor 38 with abuf := Memory.ofBytes (List.replicate 38 0x17) })
      (fun t => t.flatch.bytes 0 39) = some (List.replicate 39 0x17) := by decide

/-- Program E, step 2, as the first three bytes of a frame on the line; eleven bytes of an echo. -/
theorem test_ctrlframe :
    seen (exec (.ctrlframe ⟨true, false, false, true, true, false, false, false, false⟩ 0x75) State.reset) (fun t =>
      (t.abuf.bytes 0 12, t.cur)) =
      some ([0x01, 0x00, 0x00, 0x01, 0x01, 0x00, 0x00, 0x00, 0x00, 0x17, 0x75, 0x00], 11) := by decide

/-- V-A10: the newer frame stays. -/
theorem test_telemframe :
    seen (exec (.telemframe { telemZero with instSpeed := 2 } 0x99) { withLatch [(0, 0x01)] with cur := 0 }) (fun t =>
      (t.flatch, t.frdy, t.out.rxOutcome)) =
      some ([(0, 0x02), (37, 0x99), (38, 0x17)], true, some .complete) := by decide

/-! ### LinkScheduler -/

/-- Program D, cycle 1: LOAD with S1's buttons. -/
theorem test_txstep_load :
    (txstep (paramsT .verifyReject) ⟨true, false, false, true, true, false, false, false, false⟩ State.reset).toOption.map
      (fun t => (t.txbuf.bytes 0 11, t.txcur, t.out.txValid, t.out.txData)) =
      some ([0x01, 0x00, 0x00, 0x01, 0x01, 0x00, 0x00, 0x00, 0x00, 0x17, 0x75], 1, true, 0x01) := by decide

/-- Program D, cycle 1, of the case. -/
theorem test_txstepLoad :
    seen (exec (.txstepLoad ⟨true, false, false, true, true, false, false, false, false⟩) State.reset) (fun t =>
      (t.txcur, t.out.txValid)) = some (1, true) := by decide

/-- Program D, cycle 11: the checksum byte leaves. -/
theorem test_txstepSend :
    seen (exec .txstepSend (atTx 10)) (fun t => (t.txcur, t.out.txValid, t.out.txData)) = some (11, true, 0x75) := by
  decide

/-- Program D, cycle 22: the gap ends. -/
theorem test_txstepGap :
    seen (exec .txstepGap (atTx 21)) (fun t => (t.txcur, t.out.txValid, t.out.txData)) = some (0, false, 0x00) := by
  decide

/-- Program D, cycles 2 and 12: `horn` does not enter the frame that is being sent. -/
theorem test_txstep :
    seen (exec (.txstep ⟨false, false, true, false, false, false, false, false, false⟩) (atTx 9)) (fun t =>
      (t.txcur, t.out.txData, t.txbuf.read 2)) = some (10, 0x17, 0x00) := by decide

/-- V-D1's frame in the latch, with this checksum byte. -/
def countingLatch (checksum : Byte) : State := withLatch (Memory.ofBytes (countingPayload ++ [checksum, 0x17]))

/-- What 2.3's vectors show. -/
def pollRow (s : State) : RxPoll × Bool × LinkHealth × Telem × Bool :=
  (s.out.rxPoll, s.csumBad, s.linkHealth, s.telem, s.frdy)

/-- V-R2 and V-R3. -/
theorem test_rxpoll_verifyReject :
    pollRow (rxpoll (paramsT .verifyReject) (countingLatch 0xE6)) = (.accepted, false, .synced, countingTelem, false) ∧
    pollRow (rxpoll (paramsT .verifyReject) (countingLatch 0xE7)) = (.rejected, true, .frameError, telemZero, false) := by
  decide +kernel

/-- V-R4. -/
theorem test_rxpoll_acceptAll :
    pollRow (rxpoll (paramsT .acceptAll) (countingLatch 0xE7)) = (.accepted, true, .synced, countingTelem, false) := by
  decide +kernel

/-- V-R4 as a step, and its page: with the parameters as arguments, a run under `AcceptAll` can be stepped (R78). -/
theorem test_stepWith_acceptAll :
    seen (stepWith (paramsT .acceptAll) { countingLatch 0xE7 with stim := [[0b010, 0x00, 0x00, 0x08]] }) (fun t =>
      (t.out.rxPoll, t.csumBad, t.linkHealth, t.page)) = some (.accepted, true, .synced, .leak) ∧
    seen (stepWith (paramsT .verifyReject) { countingLatch 0xE7 with stim := [[0b010, 0x00, 0x00, 0x08]] }) (fun t =>
      (t.out.rxPoll, t.csumBad, t.linkHealth, t.page)) = some (.rejected, true, .frameError, .mode1) := by
  decide +kernel

/-- V-R1. -/
theorem test_rxpollIdle :
    seen (exec .rxpollIdle State.reset) pollRow = some (.idle, false, .synced, telemZero, false) := by decide

/-! ### PageController: 2.5's table -/

/-- V-P0a, V-P0b, V-P0c, V-P0d, V-P0e. -/
theorem test_pageeval_p0 :
    pageRow false false false (onPage .init 0 0 0) = some [7, 0, 0, 0, 0] ∧
    pageRow false false true (onPage .init 0 0 0) = some [0, 1, 0, 1, 0] ∧
    pageRow false false true (onPage .init 0 1 1) = some [0, 2, 0, 1, 0] ∧
    pageRow false false true (onPage .init 0 0 1) = some [0, 3, 0, 1, 0] ∧
    pageRow true true false (onPage .init 0 1 1) = some [7, 0, 0, 0, 0] := by decide

/-- V-P1a, V-P1b, V-P3 (S4), V-P1c, V-P1d. -/
theorem test_pageeval_p1 :
    pageRow false false false (onPage .mode1 0 1 0) = some [1, 2, 0, 1, 0] ∧
    pageRow false false false (onPage .leak 0 1 0) = some [1, 2, 0, 0, 0] ∧
    pageRow false false false (onPage .emergency 0 1 1) = some [1, 2, 0, 1, 0] ∧
    pageRow true true false (onPage .mode1 4 1 0) = some [1, 2, 5, 1, 0] ∧
    pageRow true true false (onPage .leak 5 1 0) = some [1, 2, 5, 0, 0] := by decide

/-- V-P2a, V-P2b, V-P3a, V-P3b, V-P3c. -/
theorem test_pageeval_p2_p3 :
    pageRow false false false (onPage .leak 0 0 0) = some [2, 1, 0, 1, 0] ∧
    pageRow false false false (onPage .leak 0 0 1) = some [3, 3, 0, 1, 0] ∧
    pageRow false false false (onPage .mode1 0 0 1) = some [3, 3, 0, 1, 0] ∧
    pageRow false false false (onPage .emergency 0 0 1) = some [7, 3, 0, 0, 0] ∧
    pageRow false false false (onPage .mode1 0 0 0xFF) = some [3, 3, 0, 1, 0] := by decide

/-- V-P4a, V-P5a, V-P5b, V-P5c. -/
theorem test_pageeval_p4_p5 :
    pageRow false false false (onPage .emergency 0 0 0) = some [4, 1, 0, 1, 0] ∧
    pageRow true false false (onPage .leak 0 0 0) = some [2, 1, 0, 1, 0] ∧
    pageRow true false false (onPage .emergency 0 0 0) = some [4, 1, 0, 1, 0] ∧
    pageRow true false false (onPage .mode1 0 0 0) = some [7, 1, 0, 0, 0] := by decide

/-- V-P6a, V-P6b, V-P6c, V-P6d, V-P6e. -/
theorem test_pageeval_p6 :
    pageRow true true false (onPage .mode1 4 0 0) = some [6, 0, 0, 1, 1] ∧
    pageRow true true false (onPage .emergency 4 0 1) = some [6, 0, 0, 1, 1] ∧
    pageRow true true false (onPage .mode1 3 0 0) = some [7, 1, 4, 0, 0] ∧
    pageRow true false false (onPage .mode1 4 0 0) = some [7, 1, 0, 0, 0] ∧
    pageRow false true false (onPage .mode1 4 0 0) = some [7, 1, 0, 0, 0] := by decide

/-- V-P6f, V-P6g. -/
theorem test_pageeval_p6_beaten :
    pageRow true true false (onPage .emergency 4 0 0) = some [4, 1, 5, 1, 0] ∧
    pageRow true true false (onPage .mode1 4 0 1) = some [3, 3, 5, 1, 0] := by decide

/-- Each case run by itself: the page it leaves. -/
theorem test_page_cases :
    seen (exec (.pageevalP0 true) (onPage .init 0 0 1)) (·.page) = some .emergency ∧
    seen (exec (.pageevalCnt true true) (onPage .mode1 5 0 0)) (·.comboCnt) = some 5 ∧
    seen (exec .pageevalP1 (onPage .mode1 0 1 0)) (·.page) = some .leak ∧
    seen (exec .pageevalP2 (onPage .leak 0 0 0)) (·.page) = some .mode1 ∧
    seen (exec .pageevalP3 (onPage .leak 0 0 1)) (·.page) = some .emergency ∧
    seen (exec .pageevalP4 (onPage .emergency 0 0 0)) (·.page) = some .mode1 ∧
    seen (exec (.pageevalP5 true false) (onPage .leak 0 0 0)) (·.page) = some .mode1 ∧
    seen (exec (.pageevalP6 true true) (onPage .mode1 5 0 0)) (·.page) = some .init ∧
    seen (exec (.pageevalNone false false) (onPage .mode1 0 0 0)) (·.out.pageRule) = some .none := by decide

/-! ### Steps -/

/-- Program A's variant of step 3: `EV = 011` is the byte, and then the same clock's TICK. -/
theorem test_step_two_events :
    seen (step { withStim [[0b011, 0x17, 0x00, 0x08]] with cur := 38 }) (fun t => (t.frdy, t.page, t.stim)) =
      some (true, .init, [[0b010, 0x17, 0x00, 0x08]]) ∧
    seen (step { withStim [[0b010, 0x17, 0x00, 0x08]] with txcur := 11 }) (fun t => (t.page, t.stim)) =
      some (.mode1, []) := by decide

/-- A table word placed by `withFetchWord` is the next step. -/
theorem test_withFetchWord :
    seen (step (State.reset.withFetchWord 8 0b001)) (fun t => (t.cur, t.stim)) = some (1, []) ∧
    seen (step (State.reset.withFetchWord 312 0x1701000000000000000000000000000000000000000000000000000000000000000000000000FF))
      (fun t => (t.frdy, t.flatch.read 0, t.flatch.read 37)) = some (true, 0xFF, 0x01) := by decide

/-- V-T3: RESET in mid-frame; the stimuli to come are the environment's. -/
theorem test_reset :
    seen (exec .reset { atTx 5 with stim := [[0b010, 0, 0, 0]] }) (fun t => (t.txcur, t.txbuf, t.stim)) =
      some (0, [], [[0b010, 0, 0, 0]]) := by decide

/-- The level outputs of the reset state (R50, R55). -/
theorem test_levels_reset : levels State.reset = ⟨0, telemZero, 0, false, false⟩ := by decide

/-- R107: an `RXFRAME` of another length is no line of a trace. -/
theorem test_trace_rxFrame :
    (TraceLine.rxFrame (zeros 38)).words = none ∧ (TraceLine.rx 0x41).words = some [[0b001, 0x41, 0x00, 0x00]] := by decide

/-! ### Witnesses: the hypotheses of every statement are met together -/

theorem test_witness_DecodeReadsSixteenFields : (zeros 39).length = 39 := rfl

theorem test_witness_DecodeRefusesOtherLengths :
    (zeros 0).length ≠ 39 ∧ (zeros 38).length ≠ 39 ∧ (zeros 40).length ≠ 39 := by decide

theorem test_witness_DecodeInvertsTheSender :
    (zeros 39).length = 39 ∧ (countingPayload ++ [0xE6, 0x17]).length = 39 := by decide

theorem test_witness_EncodedWordsDecodeToTheirEvent :
    WellFormed (.rxbyte 0xFF) = true ∧ WellFormed .reset = true ∧ WellFormed (.tick .none) = true ∧
    WellFormed (.telemframe countingTelem 0xE6) = true ∧ WellFormed (.rxbyteComplete 0x17) = true ∧
    WellFormed (.ctrlframe ⟨true, true, true, true, true, true, true, true, true⟩ 0xEA) = true := by decide

theorem test_witness_StepRunsTheDecodedInstruction :
    (withStim [[0b011, 0x41, 0x00, 0x08]]).stim = [0b011, 0x41, 0x00, 0x08] :: [] ∧
    decodeStim [0b011, 0x41, 0x00, 0x08] = .ok ⟨some (.rxbyte 0x41), some [0b010, 0x41, 0x00, 0x08]⟩ ∧
    decodeStim [0b100, 0x00, 0x00, 0x00] = .ok ⟨some .reset, none⟩ := by decide

theorem test_witness_ClockPerformsItsEvents :
    (0x0F : Byte).toNat < 16 ∧ 4 ≤ (0b100 : Byte).toNat ∧ (0b111 : Byte).toNat < 8 ∧
    (withStim [[0b100, 0x41, 0xFF, 0x0F]]).stim = [0b100, 0x41, 0xFF, 0x0F] :: [] ∧
    (withStim [[0b111, 0x41, 0xFF, 0x0F]]).stim = [0b111, 0x41, 0xFF, 0x0F] :: [] ∧
    (withStim [[0b001, 0x41, 0xFF, 0x0F]]).stim = [0b001, 0x41, 0xFF, 0x0F] :: [] ∧
    (withStim [[0b010, 0x41, 0xFF, 0x0F]]).stim = [0b010, 0x41, 0xFF, 0x0F] :: [] ∧
    (withStim [[0b011, 0x41, 0xFF, 0x0F]]).stim = [0b011, 0x41, 0xFF, 0x0F] :: [] ∧
    (withStim [[0b000, 0x41, 0xFF, 0x0F]]).stim = [0b000, 0x41, 0xFF, 0x0F] :: [] ∧ (withStim []).stim = [] := by decide

theorem test_witness_TelemetryFrameIsLatchedWhole :
    State.reset.cur = 0 ∧ (atCursor 1).cur.toNat ≤ 38 ∧ (atCursor 38).cur.toNat ≤ 38 := by decide

/-- R150 (b), R151: one byte out of line, the byte before the marker ends the window; a payload byte 0x17 at offset 0 completes
a window at the last cursor. -/
theorem test_telemframe_misaligned :
    seen (exec (.telemframe telemZero 0x17) (atCursor 1)) (fun t => (t.cur, t.frdy, t.abuf.read 0)) =
      some (1, true, 0x17) ∧
    seen (exec (.telemframe telemZero 0x16) (atCursor 1)) (fun t => (t.cur, t.frdy)) = some (1, false) ∧
    seen (exec (.telemframe { telemZero with instSpeed := 0x17 } 0x00) (atCursor 38)) (fun t => (t.cur, t.frdy)) =
      some (38, true) := by decide

theorem test_witness_DeliveredControlFrameIsElevenBytes : (atCursor 0).cur.toNat ≤ 27 ∧ (atCursor 27).cur.toNat ≤ 27 := by
  decide

theorem test_witness_OverflowGuardRestartsTheWindow : 39 ≤ (atCursor 39).cur.toNat ∧ 39 ≤ (atCursor 63).cur.toNat := by
  decide

theorem test_witness_StoreKeepsCollecting : (atCursor 0).cur.toNat < 38 ∧ (atCursor 37).cur.toNat < 38 := by decide

theorem test_witness_MarkerCompletesTheFrame : (atCursor 38).cur.toNat = 38 := rfl

theorem test_witness_OtherByteDiscardsTheWindow : (atCursor 38).cur.toNat = 38 ∧ (0x16 : Byte) ≠ 0x17 := by decide

theorem test_witness_CollectingAnyBytes :
    State.reset.cur = 0 ∧ (zeros 0).length ≤ 38 ∧ (List.replicate 38 (0x17 : Byte)).length ≤ 38 ∧
      List.replicate 38 (0x17 : Byte) ≠ [] := by decide

theorem test_witness_FullWindowCompletesByItsMarkerAlone :
    State.reset.cur = 0 ∧ (zeros 38).length = 38 ∧ (0x16 : Byte) ≠ 0x17 := by decide

theorem test_witness_WindowsAreCutByCountAlone : (atCursor 0).cur.toNat ≤ 38 ∧ (atCursor 38).cur.toNat ≤ 38 := by decide

theorem test_witness_AlignedFramesAllComplete :
    State.reset.cur = 0 ∧
    (∀ F ∈ [zeros 38 ++ [0x17], countingPayload ++ [0xE6, 0x17]], F.length = 39 ∧ byteAt F 38 = 0x17) ∧
    [zeros 38 ++ [0x17], countingPayload ++ [0xE6, 0x17]].getLast? = some (countingPayload ++ [0xE6, 0x17]) := by decide

theorem test_witness_LoadEncodesAndSendsByteZero : State.reset.txcur = 0 := rfl

theorem test_witness_SendHandsOverOneByte : (atTx 0).txcur.val < 11 ∧ (atTx 10).txcur.val < 11 ∧ (atTx 10).txcur ≠ 0 := by
  decide

theorem test_witness_GapHandsOverNothing : 11 ≤ (atTx 11).txcur.val ∧ 11 ≤ (atTx 21).txcur.val := by decide

/-- 22 TICKs with a byte after each. -/
def onePeriod : List Instr := (List.replicate 22 [Instr.tick .none, .rxbyte 0x41]).flatten

theorem test_witness_OneFramePerTransmitPeriod :
    State.reset.txcur = 0 ∧ isInterleaving onePeriod = true ∧
    onePeriod.filterMap tickInputs? = .none :: List.replicate 21 .none ∧
    (List.replicate 21 TickInputs.none).length = 21 := by decide

theorem test_witness_PollWithoutFrameIsIdle : State.reset.frdy = false := rfl

theorem test_witness_RightChecksumIsAccepted :
    rightFrame.frdy = true ∧ Config.csum (rightFrame.flatch.bytes 0 37) = rightFrame.flatch.read 37 := ⟨rfl, rfl⟩

theorem byte_ne_succ (b : Byte) : b ≠ b + 1 := by decide +revert

theorem test_witness_WrongChecksumIsRejected :
    wrongFrame.frdy = true ∧ Config.csum (wrongFrame.flatch.bytes 0 37) ≠ wrongFrame.flatch.read 37 :=
  ⟨rfl, byte_ne_succ (Config.csum (zeros 37))⟩

/-- Both policies, with a right and with a wrong checksum. -/
theorem test_witness_PollUnderEitherPolicy :
    rightFrame.frdy = true ∧ State.reset.frdy = false ∧
    checksumBad (paramsT .acceptAll) (countingLatch 0xE7) = true ∧
    rejects (paramsT .acceptAll) (countingLatch 0xE7) = false ∧
    rejects (paramsT .verifyReject) (countingLatch 0xE7) = true ∧
    checksumBad (paramsT .verifyReject) (countingLatch 0xE6) = false := ⟨rfl, by decide +kernel⟩

theorem test_witness_PendingFrameIsConsumedOnce : rightFrame.frdy = true ∧ wrongFrame.frdy = true := ⟨rfl, rfl⟩

theorem test_witness_NoMoreFramesConsumedThanCompleted :
    isInterleaving onePeriod = true ∧ State.reset.frdy = false := by decide

/-- A pending latch that ends in the marker, with a TICK to come, and RESET to come. -/
theorem test_witness_TelemetryComesFromAVerifiedLatch :
    (rightFrame.frdy = true → rightFrame.flatch.read 38 = 0x17) ∧
    (∃ t, step { rightFrame with stim := [[0b010, 0x00, 0x00, 0x00]] } = .next t) ∧
    ((withStim [[0b100, 0x00, 0x00, 0x00]]).frdy = true → (withStim [[0b100, 0x00, 0x00, 0x00]]).flatch.read 38 = 0x17) ∧
    ∃ t, step (withStim [[0b100, 0x00, 0x00, 0x00]]) = .next t := ⟨fun _ => rfl, ⟨_, rfl⟩, by decide, _, rfl⟩

theorem test_witness_TelemetryChangesOnlyOnAccept :
    ∃ t, exec .reset (onPage .leak 0 1 0) = .next t ∧ t.telem ≠ (onPage .leak 0 1 0).telem := ⟨_, rfl, by decide⟩

/-- A frame with a speed in it and its own checksum. -/
def speedFrame : State := withLatch [(0, 0x2A), (37, Config.csum (0x2A :: zeros 36)), (38, 0x17)]

theorem test_witness_TelemetryChangesOnlyOnAccept_accepted :
    ∃ t, exec .rxpoll speedFrame = .next t ∧ t.telem ≠ speedFrame.telem := by
  refine ⟨_, rfl, ?_⟩
  have h : rejects Config.params speedFrame = false := by
    rw [← Bool.not_eq_true, rejects_iff]
    rintro ⟨hne, -⟩
    exact hne rfl
  have hf : (recordChecksum Config.params speedFrame).flatch = speedFrame.flatch := by
    unfold recordChecksum
    split <;> rfl
  have ht : (rxpoll Config.params speedFrame).telem = telemOfBytes (latched speedFrame) := by
    rw [rxpoll, if_pos (show speedFrame.frdy = true from rfl), validate, h, if_neg (by simp)]
    exact congrArg (fun m => telemOfBytes (Memory.bytes m 0 39)) hf
  rw [ht]
  intro heq
  exact absurd (congrArg Telem.instSpeed heq) (by decide)

theorem test_witness_InitHoldsUntilSequenceDone : (onPage .init 0 1 0).page = .init := rfl

theorem test_witness_DebounceCounterFollowsTheButtons :
    (onPage .mode1 4 0 0).page ≠ .init ∧
    ∃ t, exec (.pageeval true true false) (onPage .mode1 4 0 0) = .next t ∧ t.out.pageRule = .p6 := ⟨by decide, _, rfl, rfl⟩

theorem test_witness_LeakForcesTheLeakPage :
    (onPage .leak 5 1 0).page ≠ .init ∧ (onPage .leak 5 1 0).telem.h2Leak ≠ 0x00 ∧
    (onPage .emergency 0 0xFF 1).page ≠ .init ∧ (onPage .emergency 0 0xFF 1).telem.h2Leak ≠ 0x00 := by decide

theorem test_witness_ClearedLeakReturnsToMode1 :
    (onPage .leak 5 0 0).page = .leak ∧ ¬(onPage .leak 5 0 0).telem.h2Leak ≠ 0x00 ∧
    ¬(onPage .leak 5 0 0).telem.emergency ≠ 0x00 := by decide

theorem test_witness_EmergencyForcesItsPage :
    (onPage .mode1 0 0 1).page = .mode1 ∧ (onPage .leak 0 0 1).page = .leak ∧
    ¬(onPage .mode1 0 0 1).telem.h2Leak ≠ 0x00 ∧ (onPage .mode1 0 0 1).telem.emergency ≠ 0x00 ∧
    ¬(onPage .leak 0 0 1).telem.h2Leak ≠ 0x00 ∧ (onPage .leak 0 0 1).telem.emergency ≠ 0x00 := by decide

theorem test_witness_ClearedEmergencyReturnsToMode1 :
    (onPage .emergency 5 0 0).page = .emergency ∧ ¬(onPage .emergency 5 0 0).telem.h2Leak ≠ 0x00 ∧
    ¬(onPage .emergency 5 0 0).telem.emergency ≠ 0x00 := by decide

theorem test_witness_ModeSelectRuleByItself :
    (onPage .leak 0 0 0).page = .leak ∧ (onPage .emergency 0 0 0).page = .emergency ∧
    ¬(onPage .leak 0 0 0).telem.h2Leak ≠ 0x00 ∧ ¬(onPage .leak 0 0 0).telem.emergency ≠ 0x00 ∧
    ¬(onPage .emergency 0 0 0).telem.h2Leak ≠ 0x00 ∧ ¬(onPage .emergency 0 0 0).telem.emergency ≠ 0x00 := by decide

theorem test_witness_ModeSelectRuleIsNeverFirst :
    (∃ t, exec (.pageeval true false false) (onPage .leak 0 0 0) = .next t) ∧
    ∃ t, exec (.tick { TickInputs.none with modeSel := true }) (onPage .leak 0 0 0) = .next t := ⟨⟨_, rfl⟩, _, rfl⟩

/-- The counts 4 and 5 on both pages, and 5 left by CNT. -/
theorem test_witness_FullCountReinitializes :
    ¬(onPage .mode1 4 0 0).telem.h2Leak ≠ 0x00 ∧ (onPage .mode1 4 0 0).page = .mode1 ∧
    ¬(onPage .mode1 4 0 0).telem.emergency ≠ 0x00 ∧ nextCombo true true (onPage .mode1 4 0 0).comboCnt = 5 ∧
    ¬(onPage .emergency 5 0 1).telem.h2Leak ≠ 0x00 ∧ (onPage .emergency 5 0 1).page = .emergency ∧
    (onPage .emergency 5 0 1).telem.emergency ≠ 0x00 ∧ (onPage .emergency 5 0 1).comboCnt = 5 ∧
    nextCombo true true (onPage .emergency 5 0 1).comboCnt = 5 := by decide

theorem test_witness_NoRuleKeepsThePage :
    ¬(onPage .mode1 3 0 0).telem.h2Leak ≠ 0x00 ∧ (onPage .mode1 3 0 0).page = .mode1 ∧
    ¬(onPage .mode1 3 0 0).telem.emergency ≠ 0x00 ∧ (onPage .mode1 3 0 0).comboCnt ≠ 5 ∧
    nextCombo true true (onPage .mode1 3 0 0).comboCnt ≠ 5 ∧
    (onPage .emergency 0 0 1).page = .emergency ∧ (onPage .emergency 0 0 1).telem.emergency ≠ 0x00 ∧
    nextCombo false true (onPage .emergency 0 0 1).comboCnt ≠ 5 := by decide

/-- One state and inputs for each of the eleven rows of R206, in the table's order of conditions: rule and page. -/
theorem test_witness_TransitionTableIsComplete :
    ([pageRow false false true (onPage .init 0 1 0), pageRow false false true (onPage .init 0 0 1),
      pageRow false false true (onPage .init 0 0 0), pageRow false false false (onPage .mode1 0 1 0),
      pageRow false false false (onPage .emergency 0 1 0), pageRow false false false (onPage .leak 0 0 0),
      pageRow false false false (onPage .mode1 0 0 1), pageRow false false false (onPage .leak 0 0 1),
      pageRow false false false (onPage .emergency 0 0 0), pageRow true true false (onPage .mode1 4 0 0),
      pageRow true true false (onPage .emergency 4 0 1)].map fun r => r.map (List.take 2)) =
    [some [0, 2], some [0, 3], some [0, 1], some [1, 2], some [1, 2], some [2, 1], some [3, 3], some [3, 3],
      some [4, 1], some [6, 0], some [6, 0]] := by decide

theorem test_witness_LeakDominatesEmergency :
    (onPage .emergency 0 1 1).telem.h2Leak ≠ 0x00 ∧ (onPage .emergency 0 1 1).telem.emergency ≠ 0x00 ∧
    (onPage .init 0 1 1).telem.h2Leak ≠ 0x00 ∧ (onPage .init 0 1 1).telem.emergency ≠ 0x00 := by decide

theorem test_witness_SettledPageStaysPut :
    (onPage .mode1 4 0 1).page ≠ .init ∧ ¬((true : Bool) = true ∧ (false : Bool) = true) ∧
    (onPage .leak 4 1 1).page ≠ .init ∧ (onPage .leak 4 1 1).telem.h2Leak ≠ 0x00 := by decide

theorem test_witness_FifthHeldEvaluationReinitializes :
    ¬(onPage .mode1 0 0 0).telem.h2Leak ≠ 0x00 ∧ (onPage .mode1 0 0 0).comboCnt = 0 ∧
    (onPage .mode1 0 0 0).page = .mode1 ∧ ¬(onPage .mode1 0 0 0).telem.emergency ≠ 0x00 ∧
    ¬(onPage .emergency 0 0 1).telem.h2Leak ≠ 0x00 ∧ (onPage .emergency 0 0 1).page = .emergency ∧
    (onPage .emergency 0 0 1).telem.emergency ≠ 0x00 ∧ 4 < 5 ∧ ¬((true : Bool) = true ∧ (false : Bool) = true) := by decide

/-- A state for each clause: the case is turned away there. -/
theorem test_witness_UnselectedCasesAreRefused_link :
    turnedAway (exec (.rxbyteOverflow 0x55) (atCursor 38)) "RXBYTE.OVERFLOW" = true ∧
    turnedAway (exec (.rxbyteStore 0x55) (atCursor 38)) "RXBYTE.STORE" = true ∧
    turnedAway (exec (.rxbyteComplete 0x17) (atCursor 37)) "RXBYTE.COMPLETE" = true ∧
    turnedAway (exec (.rxbyteDesync 0x16) (atCursor 37)) "RXBYTE.DESYNC" = true ∧
    turnedAway (exec (.txstepLoad TickInputs.none.btn) (atTx 1)) "TXSTEP.LOAD" = true ∧
    turnedAway (exec .txstepSend (atTx 11)) "TXSTEP.SEND" = true ∧
    turnedAway (exec .txstepGap (atTx 10)) "TXSTEP.GAP" = true ∧
    turnedAway (exec .rxpollIdle (withLatch [])) "RXPOLL.IDLE" = true ∧
    turnedAway (exec .rxpollValidate State.reset) "RXPOLL.VALIDATE" = true ∧
    turnedAway (exec .rxpollAccept State.reset) "RXPOLL.ACCEPT" = true ∧
    turnedAway (exec .rxpollReject State.reset) "RXPOLL.REJECT" = true := by decide

theorem test_witness_UnselectedCasesAreRefused_page :
    turnedAway (exec (.pageevalP0 true) (onPage .mode1 0 0 0)) "PAGEEVAL.P0" = true ∧
    turnedAway (exec (.pageevalCnt true true) (onPage .init 0 0 0)) "PAGEEVAL.CNT" = true ∧
    turnedAway (exec .pageevalP1 (onPage .mode1 0 0 1)) "PAGEEVAL.P1" = true ∧
    turnedAway (exec .pageevalP2 (onPage .leak 0 0 1)) "PAGEEVAL.P2" = true ∧
    turnedAway (exec .pageevalP3 (onPage .emergency 0 0 1)) "PAGEEVAL.P3" = true ∧
    turnedAway (exec .pageevalP4 (onPage .emergency 0 0 1)) "PAGEEVAL.P4" = true ∧
    turnedAway (exec (.pageevalP5 true false) (onPage .mode1 0 0 0)) "PAGEEVAL.P5" = true ∧
    turnedAway (exec (.pageevalP6 true true) (onPage .mode1 4 0 0)) "PAGEEVAL.P6" = true ∧
    turnedAway (exec (.pageevalNone true true) (onPage .mode1 5 0 0)) "PAGEEVAL.NONE" = true := by decide

theorem test_witness_UnselectedCasesAreRefused_checksum :
    Config.csum (wrongFrame.flatch.bytes 0 37) ≠ wrongFrame.flatch.read 37 ∧
    Config.csum (rightFrame.flatch.bytes 0 37) = rightFrame.flatch.read 37 :=
  ⟨byte_ne_succ (Config.csum (zeros 37)), rfl⟩

/-- P6 and NONE where a higher rule matches, or in `Init`. -/
theorem test_witness_UnselectedCasesAreRefused_higher :
    turnedAway (exec (.pageevalP6 true true) (onPage .leak 5 0 0)) "PAGEEVAL.P6" = true ∧
    turnedAway (exec (.pageevalP6 true true) (onPage .mode1 5 0 1)) "PAGEEVAL.P6" = true ∧
    turnedAway (exec (.pageevalNone true true) (onPage .init 0 0 0)) "PAGEEVAL.NONE" = true ∧
    turnedAway (exec (.pageevalNone false false) (onPage .emergency 0 0 0)) "PAGEEVAL.NONE" = true := by decide

theorem test_witness_ErrorClassesAreRaisedExactly :
    (∃ t, exec (.rxbyte 0x16) (atCursor 38) = .next t) ∧ (∃ t, exec (.rxbyte 0x16) (atCursor 39) = .next t) ∧
    (∃ t, exec (.tick .none) State.reset = .next t) ∧ ∃ t, exec .reset State.reset = .next t :=
  ⟨⟨_, rfl⟩, ⟨_, rfl⟩, ⟨_, rfl⟩, _, rfl⟩

theorem test_witness_NothingWritesTimeout :
    ∃ t, exec (.rxbyte 0x41) { State.reset with linkHealth := .timeout } = .next t ∧ t.linkHealth = .timeout :=
  ⟨_, rfl, rfl⟩

/-- A state with a stimulus to come that meets the invariants, and steps. -/
theorem test_witness_StepKeepsTheInvariants :
    Inv (withStim [[0b001, 0x41, 0x00, 0x00]]) ∧ ∃ t, step (withStim [[0b001, 0x41, 0x00, 0x00]]) = .next t := by
  refine ⟨⟨by decide, fun _ _ => rfl, by decide, by decide, by decide, by decide, by decide, ?_, by decide⟩, _, rfl⟩
  intro h
  exact absurd rfl h

theorem test_witness_EveryInstructionKeepsTheBuffersCanonical :
    BuffersWf (atCursor 38) ∧ ∃ t, exec (.rxbyte 0x17) (atCursor 38) = .next t :=
  ⟨⟨by decide, by decide, by decide, by decide, by decide, by decide⟩, _, rfl⟩

end Sys2Proof.Tests
end

section
/-!
PROOFS. The state (10_state.md): what one step is (R51, R97), and the invariants of R35, with the lemmas they rest on. Each
event is shown to keep the invariants once, part by part of the block; a step is one event on the state after the fetch.
-/

namespace Sys2Proof.Machine

/-! ### Outcomes that are a next state -/

theorem eq_ok_of_ending {r : Except Fault State} {t : State} (h : ending r = .next t) : r = .ok t := by
  cases r with
  | ok u => injection h with h; rw [h]
  | error f => cases h

/-- A case that completed was selected, and its computation ended. -/
theorem of_whenSelected {m : String} {c : Bool} {r : Except Fault State} {t : State}
    (h : whenSelected m c r = .next t) : c = true ∧ r = .ok t := by
  cases c with
  | true => exact ⟨rfl, eq_ok_of_ending h⟩
  | false => cases h

theorem eq_of_whenSelected_ok {m : String} {c : Bool} {u t : State} (h : whenSelected m c (.ok u) = .next t) : t = u := by
  obtain ⟨-, hr⟩ := of_whenSelected h
  injection hr with hr
  exact hr.symm

/-! ### The step and the decoder -/

/-- A step whose next word decodes to an instruction is that instruction on the state after the fetch. -/
theorem stepBy_of_decodeStim (ex : Instr → State → Host.Outcome State Fault Refusal) {s : State} {w : List Byte}
    {rest : List (List Byte)} {i : Instr} {later : Option (List Byte)} (hs : s.stim = w :: rest)
    (hd : decodeStim w = .ok ⟨some i, later⟩) : stepBy ex s = ex i (setStim (later.toList ++ rest) s) := by
  have hf : fetch s = some (.ok (some i, setStim (later.toList ++ rest) s)) := by
    rw [fetch, hs]
    simp only [hd, Except.map]
  rw [stepBy, hf]

/-- Settles O8: a step is its decoded instruction for `exec` and for `execWith` alike, since both are `stepBy`. -/
theorem stepRunsTheDecodedInstruction : Obligations.StepRunsTheDecodedInstruction := by
  intro s w rest i later hs hd
  exact ⟨stepBy_of_decodeStim exec hs hd, fun p => stepBy_of_decodeStim (execWith p) hs hd⟩

theorem decodeEvent_first {ev data lo hi : Byte} {d : Decoded} {i : Instr} (h : decodeEvent ev data lo hi = .ok d)
    (hf : d.first = some i) : ∃ e : Event, e.instr = i := by
  unfold decodeEvent at h
  split at h
  · cases h
  split at h
  · cases h
  dsimp only at h
  split at h
  · cases h; injection hf with hf; exact ⟨.reset, hf⟩
  split at h
  · cases h; injection hf with hf; exact ⟨.rxbyte data, hf⟩
  split at h
  · cases h; injection hf with hf; exact ⟨.tick _, hf⟩
  · cases h; cases hf

theorem exists_of_bind_ok {ε α β : Type} {x : Except ε α} {f : α → Except ε β} {b : β} (h : x >>= f = .ok b) :
    ∃ a, x = .ok a ∧ f a = .ok b := by
  cases x with
  | ok a => exact ⟨a, rfl, h⟩
  | error e => cases h

theorem decodeCtrl_first {F : List Byte} {d : Decoded} {i : Instr} (h : decodeCtrl F = .ok d) (hf : d.first = some i) :
    ∃ e : Event, e.instr = i := by
  unfold decodeCtrl at h
  iterate 9 obtain ⟨_, -, h⟩ := exists_of_bind_ok h
  split at h
  · cases h; injection hf with hf; exact ⟨.ctrlframe _ _, hf⟩
  · cases h

theorem decodeTelem_first {F : List Byte} {d : Decoded} {i : Instr} (h : decodeTelem F = .ok d) (hf : d.first = some i) :
    ∃ e : Event, e.instr = i := by
  unfold decodeTelem at h
  split at h
  · cases h; injection hf with hf; exact ⟨.telemframe _ _, hf⟩
  · cases h

/-- What a stimulus word performs first is an event or a whole frame, never a case of an event by itself (R98). -/
theorem decodeStim_first {w : List Byte} {d : Decoded} {i : Instr} (h : decodeStim w = .ok d) (hf : d.first = some i) :
    ∃ e : Event, e.instr = i := by
  unfold decodeStim at h
  split at h
  · exact decodeEvent_first h hf
  split at h
  · exact decodeCtrl_first h hf
  split at h
  · exact decodeTelem_first h hf
  · cases h

/-- What a completed step was: nothing to come, a clock without a strobe, or one event on the state after the fetch. -/
theorem step_cases {s t : State} (h : step s = .next t) :
    t = s ∨ ∃ stim, t = setStim stim s ∨ ∃ e : Event, exec e.instr (setStim stim s) = .next t := by
  unfold step stepBy fetch at h
  cases hs : s.stim with
  | nil =>
    rw [hs] at h
    injection h with h
    exact .inl h.symm
  | cons w rest =>
    rw [hs] at h
    cases hd : decodeStim w with
    | error e => simp only [hd, Except.map] at h; cases h
    | ok d =>
      simp only [hd, Except.map] at h
      refine .inr ⟨d.later.toList ++ rest, ?_⟩
      cases hi : d.first with
      | none =>
        rw [hi] at h
        injection h with h
        exact .inl h.symm
      | some i =>
        rw [hi] at h
        obtain ⟨e, rfl⟩ := decodeStim_first hd hi
        exact .inr ⟨e, h⟩

/-! ### Whole events over their parts -/

/-- A run of RXBYTE events always ends, and writes nothing but the assembler, the latch, its flag and the outputs. -/
theorem rxSeq_ok (bs : List Byte) (s : State) : ∃ t, rxSeq bs s = .ok t ∧
    t = { s with abuf := t.abuf, cur := t.cur, flatch := t.flatch, frdy := t.frdy, out := t.out } := by
  induction bs generalizing s with
  | nil => exact ⟨s, rfl, rfl⟩
  | cons b bs ih =>
    obtain ⟨u, hu, hus⟩ := rxbyteEvent_ok b s
    obtain ⟨t, ht, htu⟩ := ih u
    refine ⟨t, by rw [rxSeq, hu]; exact ht, ?_⟩
    rw [hus] at htu
    exact htu

/-- A whole telemetry frame on the line is the run of its bytes (R92). -/
theorem rxSeq_of_exec_telemframe {fields : Telem} {c : Byte} {s t : State}
    (h : exec (.telemframe fields c) s = .next t) : rxSeq (telemBytes fields c) s = .ok t := eq_ok_of_ending h

/-- A whole control frame on the line is the run of its bytes (R91, R277). -/
theorem rxSeq_of_exec_ctrlframe {btn : Buttons} {c : Byte} {s t : State}
    (h : exec (.ctrlframe btn c) s = .next t) : rxSeq (ctrlBytes btn c) s = .ok t := eq_ok_of_ending h

/-- A TICK is TXSTEP, which ends, and then RXPOLL and PAGEEVAL (R160). -/
theorem tickEvent_eq (p : Config.Params) (inputs : TickInputs) (s : State) :
    ∃ u, txstep p inputs.btn (clearOut s) = .ok u ∧
      tickEvent p inputs s = .ok (pageeval inputs.modeSel inputs.modeAlt inputs.initSeqDone (rxpoll p u)) := by
  obtain ⟨u, hu, -⟩ := txstep_ok p inputs.btn (clearOut s)
  exact ⟨u, hu, by rw [tickEvent, hu]; rfl⟩

/-- DECODE of a list that has a meaning only returns its result (R122). -/
theorem eq_returnResult_of_execDecode {bytes : List Byte} {s t : State} (h : execDecode bytes s = .next t) :
    ∃ r, t = returnResult r s := by
  unfold execDecode at h
  split at h
  · cases h; exact ⟨_, rfl⟩
  · cases h

/-! ### `LINK_HEALTH` (R26, R234) -/

/-- `Timeout` after was `Timeout` before. -/
def NoNewTimeout (s t : State) : Prop := t.linkHealth = .timeout → s.linkHealth = .timeout

theorem NoNewTimeout.of_eq {s t : State} (h : t.linkHealth = s.linkHealth) : NoNewTimeout s t := fun ht => h ▸ ht

/-- A store leaves `LINK_HEALTH` alone when the effect that follows it does. -/
theorem storeThen_linkHealth {b : Byte} {effect : State → State} {s t : State} (h : storeThen b effect s = .ok t)
    (hf : ∀ u, (effect u).linkHealth = u.linkHealth) : t.linkHealth = s.linkHealth := by
  unfold storeThen writeAt at h
  split at h
  · injection h with h
    rw [← h, hf]
    rfl
  · cases h

theorem rxCase_linkHealth {b : Byte} {s t : State} (h : rxCase b s = .ok t) : t.linkHealth = s.linkHealth := by
  unfold rxCase at h
  split at h
  · exact storeThen_linkHealth h fun _ => rfl
  split at h
  · exact storeThen_linkHealth h fun _ => rfl
  · exact storeThen_linkHealth h fun _ => rfl

theorem rxbyteEvent_linkHealth {b : Byte} {s t : State} (h : rxbyteEvent b s = .ok t) : t.linkHealth = s.linkHealth := by
  obtain ⟨u, hu, hus⟩ := rxbyteEvent_ok b s
  cases hu.symm.trans h
  rw [hus]

theorem rxSeq_linkHealth {bs : List Byte} {s t : State} (h : rxSeq bs s = .ok t) : t.linkHealth = s.linkHealth := by
  obtain ⟨u, hu, hus⟩ := rxSeq_ok bs s
  cases hu.symm.trans h
  rw [hus]

theorem sendByte_linkHealth {s t : State} (h : sendByte s = .ok t) : t.linkHealth = s.linkHealth := by
  unfold sendByte readAt at h
  split at h
  · injection h with h; rw [← h]; rfl
  · cases h

theorem txstep_linkHealth {p : Config.Params} {btn : Buttons} {s t : State} (h : txstep p btn s = .ok t) :
    t.linkHealth = s.linkHealth := by
  obtain ⟨u, hu, hus⟩ := txstep_ok p btn s
  cases hu.symm.trans h
  rw [hus]

@[simp] theorem validateAccept_linkHealth (p : Config.Params) (s : State) :
    (validateAccept p s).linkHealth = .synced := rfl

@[simp] theorem validateReject_linkHealth (p : Config.Params) (s : State) :
    (validateReject p s).linkHealth = .frameError := rfl

theorem validate_linkHealth (p : Config.Params) (s : State) :
    (validate p s).linkHealth = if rejects p s then .frameError else .synced := by
  unfold validate
  split <;> rfl

/-- The poll writes `LINK_HEALTH` only where a frame is pending, by whether it is rejected (R171 to R174). -/
theorem rxpoll_linkHealth (p : Config.Params) (s : State) :
    (rxpoll p s).linkHealth =
      if s.frdy then (if rejects p s then .frameError else .synced) else s.linkHealth := by
  unfold rxpoll
  split
  · exact validate_linkHealth p s
  · rfl

theorem validate_noNewTimeout (p : Config.Params) (s : State) : NoNewTimeout s (validate p s) := by
  intro ht
  rw [validate_linkHealth] at ht
  split at ht <;> cases ht

theorem rxpoll_noNewTimeout (p : Config.Params) (s : State) : NoNewTimeout s (rxpoll p s) := by
  unfold rxpoll
  split
  · exact validate_noNewTimeout p s
  · exact .of_eq rfl

@[simp] theorem pageeval_linkHealth (sel alt done : Bool) (s : State) :
    (pageeval sel alt done s).linkHealth = s.linkHealth := by rw [pageeval_frame]

@[simp] theorem applyP0_linkHealth (done : Bool) (s : State) : (applyP0 done s).linkHealth = s.linkHealth := by
  cases done <;> rfl

theorem tickEvent_noNewTimeout {p : Config.Params} {inputs : TickInputs} {s t : State}
    (h : tickEvent p inputs s = .ok t) : NoNewTimeout s t := by
  obtain ⟨u, hu, ht⟩ := tickEvent_eq p inputs s
  cases ht.symm.trans h
  intro ht
  rw [pageeval_linkHealth] at ht
  have hu' := rxpoll_noNewTimeout p u ht
  rwa [txstep_linkHealth hu] at hu'

/-- Only RXPOLL and RESET write `LINK_HEALTH` at all, and they write `Synced` or `FrameError`. -/
theorem exec_noNewTimeout {i : Instr} {s t : State} (h : exec i s = .next t) : NoNewTimeout s t := by
  cases i with
  | ctrlframe _ _ => exact .of_eq (rxSeq_linkHealth (rxSeq_of_exec_ctrlframe h))
  | telemframe _ _ => exact .of_eq (rxSeq_linkHealth (rxSeq_of_exec_telemframe h))
  | reset => cases h; exact fun ht => nomatch ht
  | rxbyte _ => exact .of_eq (rxbyteEvent_linkHealth (eq_ok_of_ending h))
  | rxbyteOverflow _ => exact .of_eq ((rxCase_linkHealth (of_whenSelected h).2).trans rfl)
  | rxbyteStore _ | rxbyteComplete _ | rxbyteDesync _ =>
    exact .of_eq ((storeThen_linkHealth (of_whenSelected h).2 fun _ => rfl).trans rfl)
  | tick _ => exact tickEvent_noNewTimeout (eq_ok_of_ending h)
  | txstep _ => exact .of_eq (txstep_linkHealth (eq_ok_of_ending h))
  | txstepLoad _ | txstepSend => exact .of_eq ((sendByte_linkHealth (of_whenSelected h).2).trans rfl)
  | rxpoll => cases h; exact rxpoll_noNewTimeout _ s
  | rxpollValidate => rw [eq_of_whenSelected_ok h]; exact validate_noNewTimeout _ s
  | rxpollAccept | rxpollReject => rw [eq_of_whenSelected_ok h]; simp [NoNewTimeout]
  | pageeval _ _ _ => cases h; exact .of_eq (pageeval_linkHealth _ _ _ s)
  | pageevalP0 _ => rw [eq_of_whenSelected_ok h]; exact .of_eq (applyP0_linkHealth _ s)
  | txstepGap | rxpollIdle | pageevalCnt _ _ | pageevalP1 | pageevalP2 | pageevalP3 | pageevalP4 | pageevalP5 _ _
  | pageevalP6 _ _ | pageevalNone _ _ => rw [eq_of_whenSelected_ok h]; exact .of_eq rfl
  | encode _ | csum _ => cases h; exact .of_eq rfl
  | decode _ =>
    obtain ⟨r, rfl⟩ := eq_returnResult_of_execDecode h
    exact .of_eq rfl

/-- Settles O56, instruction by instruction. -/
theorem nothingWritesTimeout : Obligations.NothingWritesTimeout := fun _ _ _ h => exec_noNewTimeout h

/-! ### The invariants of R35 at reset and under RXBYTE -/

theorem inv_reset : Inv State.reset where
  curRange := by decide
  abufTail _ _ := rfl
  latchMarker := by decide
  initFlag := by decide
  initCount := by decide
  health := by decide
  txMarker := by decide
  txChecksum h := absurd rfl h
  txFlags := by decide

theorem buffersWf_reset : BuffersWf State.reset := ⟨rfl, rfl, rfl, rfl, rfl, rfl⟩

/-- Settles O58. -/
theorem resetMeetsTheInvariants : Obligations.ResetMeetsTheInvariants := ⟨inv_reset, buffersWf_reset⟩

/-- The invariants speak of no stimulus. -/
theorem inv_setStim {s : State} (h : Inv s) (stim : List (List Byte)) : Inv (setStim stim s) := { h with }

/-- The invariants speak of no output. -/
theorem inv_clearOut {s : State} (h : Inv s) : Inv (clearOut s) := { h with }

/-- The cursor's increment does not wrap inside the buffer. -/
theorem toNat_cur_add_one {c : BitVec Config.CURW} (h : c.toNat < 38) : (c + 1).toNat = c.toNat + 1 :=
  BitVec.toNat_add_of_lt (y := 1) (show c.toNat + 1 < 64 by omega)

/-- An RXBYTE keeps R35: it stores behind the cursor, or empties the assembler, and what it latches ends with the marker
(R142 to R144). -/
theorem inv_rxbyteEvent {s t : State} {b : Byte} (h : Inv s) (ht : rxbyteEvent b s = .ok t) : Inv t := by
  rcases Nat.lt_or_eq_of_le h.curRange with hc | hc
  · cases (rxbyteEvent_store b s hc).symm.trans ht
    have hcur := toNat_cur_add_one hc
    refine { h with curRange := hcur ▸ hc, abufTail := fun i hi => ?_ }
    rw [hcur] at hi
    rw [read_write, if_neg (by omega), h.abufTail i (by omega)]
  · by_cases hb : b = 0x17
    · subst hb
      cases (rxbyteEvent_complete s hc).symm.trans ht
      refine { h with curRange := Nat.zero_le _, abufTail := fun _ _ => rfl, latchMarker := fun _ => ?_ }
      rw [read_ofBytes, getD_bytes _ _ _ _ (by omega), read_write, if_pos rfl]
    · cases (rxbyteEvent_desync b s hc hb).symm.trans ht
      exact { h with curRange := Nat.zero_le _, abufTail := fun _ _ => rfl }

theorem inv_rxSeq {bs : List Byte} {s t : State} (h : Inv s) (ht : rxSeq bs s = .ok t) : Inv t := by
  induction bs generalizing s with
  | nil => cases ht; exact h
  | cons b bs ih =>
    obtain ⟨u, hu, -⟩ := rxbyteEvent_ok b s
    rw [rxSeq, hu] at ht
    exact ih (inv_rxbyteEvent h hu) ht

/-! ### The invariants under TXSTEP -/

/-- What R35 (ix) asks of `TXBUF`: marker, checksum and flags of a control frame. -/
structure HoldsControlFrame (m : Memory) : Prop where
  marker : m.read 9 = 0x17
  checksum : m.read 10 = Config.csum (m.bytes 0 10)
  flags : ∀ i, i < 9 → m.read i = 0x00 ∨ m.read i = 0x01

theorem Inv.holdsControlFrame {s : State} (h : Inv s) (hc : s.txcur ≠ 0) : HoldsControlFrame s.txbuf :=
  ⟨h.txMarker hc, h.txChecksum hc, h.txFlags hc⟩

/-- The transmit side may move to any position over a buffer that holds a control frame. -/
theorem inv_of_holdsControlFrame {s : State} {m : Memory} (h : Inv s) (hm : HoldsControlFrame m)
    (c : Fin Config.TX_PERIOD) (o : Outputs) : Inv { s with txbuf := m, txcur := c, out := o } :=
  { h with txMarker := fun _ => hm.marker, txChecksum := fun _ => hm.checksum, txFlags := fun _ => hm.flags }

theorem flagByte_cases (f : Bool) : flagByte f = 0x00 ∨ flagByte f = 0x01 := by cases f <;> decide

/-- The first ten bytes of an encoded frame, read back from a buffer, are the body the checksum covers (R91). -/
theorem bytes_ofBytes_encodeFrame (p : Config.Params) (btn : Buttons) :
    (Memory.ofBytes (encodeFrame p btn)).bytes 0 10 = ctrlBody btn := by
  simp only [Memory.bytes, read_ofBytes]
  rfl

/-- LOAD puts a control frame in `TXBUF` (R91, R121). -/
theorem holdsControlFrame_encodeFrame (btn : Buttons) :
    HoldsControlFrame (Memory.ofBytes (encodeFrame Config.params btn)) where
  marker := by rw [read_ofBytes]; rfl
  checksum := by rw [read_ofBytes, bytes_ofBytes_encodeFrame]; rfl
  flags i hi := by
    rw [read_ofBytes]
    interval_cases i <;> exact flagByte_cases _

/-- TXSTEP keeps R35: at position 0 it loads a control frame, elsewhere the buffer holds one already (R162 to R164). -/
theorem inv_txstep {btn : Buttons} {s t : State} (h : Inv s) (ht : txstep Config.params btn s = .ok t) : Inv t := by
  by_cases h₀ : s.txcur.val = 0
  · have hlt : (loadTxbuf Config.params btn s).txcur.val < 11 := by rw [loadTxbuf_txcur]; omega
    rw [txstep_load _ btn s h₀, sendByte_of_lt _ hlt] at ht
    cases ht
    exact inv_of_holdsControlFrame h (holdsControlFrame_encodeFrame btn) _ _
  · have hm : HoldsControlFrame s.txbuf := h.holdsControlFrame fun hc => h₀ (by rw [hc]; rfl)
    by_cases h₁ : s.txcur.val < 11
    · rw [txstep_send _ btn s h₀ h₁, sendByte_of_lt s h₁] at ht
      cases ht
      exact inv_of_holdsControlFrame h hm _ _
    · rw [txstep_gap _ btn s (by omega)] at ht
      cases ht
      exact inv_of_holdsControlFrame h hm _ _

/-! ### The invariants under RXPOLL -/

/-- RXPOLL keeps R35: it leaves no frame pending and `LINK_HEALTH` at `Synced` or `FrameError` (R171 to R174). -/
theorem inv_rxpoll {p : Config.Params} {s : State} (h : Inv s) : Inv (rxpoll p s) := by
  have hh : (rxpoll p s).linkHealth = .synced ∨ (rxpoll p s).linkHealth = .frameError := by
    rw [rxpoll_linkHealth]
    split
    · split
      · exact .inr rfl
      · exact .inl rfl
    · exact h.health
  rw [rxpoll_frame]
  exact { h with latchMarker := (nomatch ·), health := hh }

/-! ### The invariants under PAGEEVAL -/

theorem splashPage_ne_init (s : State) : splashPage s ≠ .init := by
  unfold splashPage
  split
  · decide
  split <;> decide

/-- `INIT_CPLT` is set outside `Init` (R35 (vi)). -/
theorem Inv.initCplt_of_ne_init {s : State} (h : Inv s) (hp : s.page ≠ .init) : s.initCplt = true :=
  Bool.eq_true_of_not_eq_false fun hi => hp (h.initFlag.mp hi)

/-- A rule outside `Init` that selects another page than `Init` leaves the flag and the count as R35 asks. -/
theorem inv_takeRule {s : State} (h : Inv s) (hp : s.page ≠ .init) (r : PageRule) {new : Page} (hn : new ≠ .init)
    (ri : Bool) : Inv (takeRule r new ri s) where
  __ := h
  initFlag := by simp [h.initCplt_of_ne_init hp, hn]
  initCount hi := absurd hi hn

/-- P0 keeps R35: it keeps the page with the count at 0, or leaves `Init` with `INIT_CPLT` set (R192). -/
theorem inv_applyP0 {s : State} (h : Inv s) (done : Bool) : Inv (applyP0 done s) := by
  unfold applyP0
  split
  · have hn := splashPage_ne_init s
    exact { h with initFlag := by simp [hn], initCount := fun hi => absurd hi hn }
  · exact { h with initCount := fun _ => rfl }

theorem inv_applyCnt {s : State} (h : Inv s) (hp : s.page ≠ .init) (sel alt : Bool) : Inv (applyCnt sel alt s) :=
  { h with initCount := fun hi => absurd hi hp }

/-- The effect of any rule outside `Init` keeps R35; P6 alone goes to `Init`, and clears flag and count there (R199). -/
theorem inv_applyRule {s : State} (h : Inv s) (hp : s.page ≠ .init) (r : PageRule) : Inv (applyRule r s) := by
  cases r with
  | p0 => exact h
  | p1 | p2 | p3 | p4 | p5 => exact inv_takeRule h hp _ (by decide) _
  | p6 => exact { h with initFlag := by simp [applyRule, applyP6], initCount := fun _ => rfl }
  | none => exact inv_takeRule h hp _ hp _

theorem inv_pageeval {s : State} (h : Inv s) (sel alt done : Bool) : Inv (pageeval sel alt done s) := by
  by_cases hp : s.page = .init
  · rw [pageeval_init sel alt done s hp]
    exact inv_applyP0 h done
  · rw [pageeval_of_ne_init sel alt done s hp]
    exact inv_applyRule (inv_applyCnt h hp sel alt) hp _

/-! ### The invariants under a step -/

theorem inv_tickEvent {inputs : TickInputs} {s t : State} (h : Inv s) (ht : tickEvent Config.params inputs s = .ok t) :
    Inv t := by
  obtain ⟨u, hu, hte⟩ := tickEvent_eq Config.params inputs s
  cases hte.symm.trans ht
  exact inv_pageeval (inv_rxpoll (inv_txstep (inv_clearOut h) hu)) _ _ _

/-- Every event, and every whole frame on the line, keeps R35. -/
theorem inv_exec_event {e : Event} {s t : State} (h : Inv s) (ht : exec e.instr s = .next t) : Inv t := by
  cases e with
  | ctrlframe _ _ => exact inv_rxSeq h (rxSeq_of_exec_ctrlframe ht)
  | telemframe _ _ => exact inv_rxSeq h (rxSeq_of_exec_telemframe ht)
  | reset => cases ht; exact inv_setStim inv_reset s.stim
  | rxbyte _ => exact inv_rxbyteEvent h (eq_ok_of_ending ht)
  | tick _ => exact inv_tickEvent h (eq_ok_of_ending ht)

/-- Settles O59: a step is one event on the state after the fetch, and each event keeps R35. A case run by itself need not
(TXSTEP.SEND at position 0, log entry 6), so the proof turns on `step_cases`. -/
theorem stepKeepsTheInvariants : Obligations.StepKeepsTheInvariants := by
  intro s t h ht
  rcases step_cases ht with rfl | ⟨stim, rfl | ⟨e, he⟩⟩
  · exact h
  · exact inv_setStim h stim
  · exact inv_exec_event (inv_setStim h stim) he

end Sys2Proof.Machine
end

section
/-!
PROOFS. The memory (20_memory.md): the items each context owns (R79, R245), that the two contexts' operations commute where
they touch disjoint items (R80), and the canonical form of the three buffers under every instruction (R60 to R63).
-/

namespace Sys2Proof.Machine

/-! ### Operations of a run that complete -/

theorem exec_rxbyte_of_ok {b : Byte} {s t : State} (h : rxbyteEvent b s = .ok t) : exec (.rxbyte b) s = .next t :=
  congrArg ending h

theorem exec_tick_of_ok {inputs : TickInputs} {s t : State} (h : tickEvent Config.params inputs s = .ok t) :
    exec (.tick inputs) s = .next t := congrArg ending h

theorem exec_txstep_of_ok {btn : Buttons} {s t : State} (h : txstep Config.params btn s = .ok t) :
    exec (.txstep btn) s = .next t := congrArg ending h

/-! ### What each context writes (R79) -/

/-- Settles O53: RXBYTE by `rxbyteEvent_ok`; TICK through its three parts, none of which writes the assembler or the latch, and
of which RXPOLL clears FRDY (R245). -/
theorem contextsOwnTheirState : Obligations.ContextsOwnTheirState := by
  refine ⟨fun b s => ?_, fun inputs s => ?_⟩
  · obtain ⟨t, ht, hts⟩ := rxbyteEvent_ok b s
    exact ⟨t, exec_rxbyte_of_ok ht, hts⟩
  · obtain ⟨u, hu, ht⟩ := tickEvent_eq Config.params inputs s
    obtain ⟨u', hu', hus⟩ := txstep_ok Config.params inputs.btn (clearOut s)
    cases hu.symm.trans hu'
    refine ⟨_, exec_tick_of_ok ht, ?_⟩
    rw [pageeval_frame, rxpoll_frame, hus]
    exact ⟨rfl, rfl, rfl, rfl, rfl⟩

/-! ### The block as two parts: the receiver's items and the others -/

/-- The items RXBYTE reads and writes: the assembler, the latch and its flag (R79). -/
def receiver (s : State) : Memory × BitVec Config.CURW × Memory × Bool := (s.abuf, s.cur, s.flatch, s.frdy)

/-- The other items of the block: the status, the telemetry, the transmit side and the page controller. -/
def mainItems (s : State) : State := { block s with abuf := [], cur := 0, flatch := [], frdy := false }

/-- The twelve items are the receiver's four and the other eight. -/
theorem block_eq_iff {s t : State} : block s = block t ↔ receiver s = receiver t ∧ mainItems s = mainItems t := by
  simp only [block, receiver, mainItems, State.mk.injEq, Prod.mk.injEq]
  tauto

theorem receiver_congr {s t : State} (h : block s = block t) : receiver s = receiver t := (block_eq_iff.mp h).1

theorem mainItems_congr {s t : State} (h : block s = block t) : mainItems s = mainItems t := (block_eq_iff.mp h).2

/-! #### RXBYTE: on the receiver's items alone -/

theorem mainItems_of_rxbyteEvent {b : Byte} {s t : State} (h : rxbyteEvent b s = .ok t) : mainItems t = mainItems s := by
  obtain ⟨u, hu, hus⟩ := rxbyteEvent_ok b s
  cases hu.symm.trans h
  rw [hus]
  rfl

/-- What RXBYTE leaves in the receiver's items is read from those items. -/
theorem receiver_rxbyteEvent_congr {b : Byte} {s s' t t' : State} (hr : receiver s = receiver s')
    (h : rxbyteEvent b s = .ok t) (h' : rxbyteEvent b s' = .ok t') : receiver t = receiver t' := by
  simp only [receiver, Prod.mk.injEq] at hr
  obtain ⟨habuf, hcur, hflatch, hfrdy⟩ := hr
  rcases Nat.lt_trichotomy s.cur.toNat 38 with hc | hc | hc
  · cases (rxbyteEvent_store b s hc).symm.trans h
    cases (rxbyteEvent_store b s' (hcur ▸ hc)).symm.trans h'
    simp only [receiver, habuf, hcur, hflatch, hfrdy]
  · by_cases hb : b = 0x17
    · subst hb
      cases (rxbyteEvent_complete s hc).symm.trans h
      cases (rxbyteEvent_complete s' (hcur ▸ hc)).symm.trans h'
      simp only [receiver, habuf]
    · cases (rxbyteEvent_desync b s hc hb).symm.trans h
      cases (rxbyteEvent_desync b s' (hcur ▸ hc) hb).symm.trans h'
      simp only [receiver, hflatch, hfrdy]
  · cases (rxbyteEvent_overflow b s hc).symm.trans h
    cases (rxbyteEvent_overflow b s' (hcur ▸ hc)).symm.trans h'
    simp only [receiver, hflatch, hfrdy]

/-! #### TXSTEP and PAGEEVAL: on the other items alone -/

theorem receiver_of_txstep {p : Config.Params} {btn : Buttons} {s t : State} (h : txstep p btn s = .ok t) :
    receiver t = receiver s := by
  obtain ⟨u, hu, hus⟩ := txstep_ok p btn s
  cases hu.symm.trans h
  rw [hus]
  rfl

/-- `TXBUF` after TXSTEP: a new frame at the start of the schedule, else what it held (R162 to R164). -/
theorem txbuf_of_txstep {p : Config.Params} {btn : Buttons} {s t : State} (h : txstep p btn s = .ok t) :
    t.txbuf = if s.txcur.val = 0 then Memory.ofBytes (encodeFrame p btn) else s.txbuf := by
  by_cases h₀ : s.txcur.val = 0
  · have hlt : (loadTxbuf p btn s).txcur.val < 11 := by rw [loadTxbuf_txcur]; omega
    rw [txstep_load p btn s h₀, sendByte_of_lt _ hlt] at h
    cases h
    rw [if_pos h₀]
    rfl
  · rw [if_neg h₀]
    by_cases h₁ : s.txcur.val < 11
    · rw [txstep_send p btn s h₀ h₁, sendByte_of_lt s h₁] at h
      cases h
      rfl
    · rw [txstep_gap p btn s (by omega)] at h
      cases h
      rfl

/-- What TXSTEP leaves in the other items is read from those items. -/
theorem mainItems_of_txstep {p : Config.Params} {btn : Buttons} {s t : State} (h : txstep p btn s = .ok t) :
    mainItems t = { mainItems s with
      txbuf := if (mainItems s).txcur.val = 0 then Memory.ofBytes (encodeFrame p btn) else (mainItems s).txbuf
      txcur := nextTxcur (mainItems s).txcur } := by
  have hbuf : t.txbuf = if (mainItems s).txcur.val = 0 then Memory.ofBytes (encodeFrame p btn)
      else (mainItems s).txbuf := txbuf_of_txstep (s := s) h
  obtain ⟨u, hu, hus⟩ := txstep_ok p btn s
  cases hu.symm.trans h
  rw [← hbuf, hus]
  rfl

theorem mainItems_txstep_congr {p : Config.Params} {btn : Buttons} {s s' t t' : State}
    (hm : mainItems s = mainItems s') (h : txstep p btn s = .ok t) (h' : txstep p btn s' = .ok t') :
    mainItems t = mainItems t' := by
  rw [mainItems_of_txstep h, mainItems_of_txstep h', hm]

/-- TXSTEP leaves the same block from two states that differ in their outputs and stimuli alone. -/
theorem block_txstep_congr {p : Config.Params} {btn : Buttons} {s s' t t' : State} (hs : block s = block s')
    (h : txstep p btn s = .ok t) (h' : txstep p btn s' = .ok t') : block t = block t' := by
  refine block_eq_iff.mpr ⟨?_, mainItems_txstep_congr (mainItems_congr hs) h h'⟩
  rw [receiver_of_txstep h, receiver_of_txstep h', receiver_congr hs]

@[simp] theorem receiver_pageeval (sel alt done : Bool) (s : State) :
    receiver (pageeval sel alt done s) = receiver s := by
  rw [pageeval_frame]
  rfl

/-- What PAGEEVAL leaves in the other items is read from those items. -/
theorem mainItems_pageeval (sel alt done : Bool) (s : State) :
    mainItems (pageeval sel alt done s) = mainItems (pageeval sel alt done (mainItems s)) := by
  by_cases h : s.page = .init
  · rw [pageeval_init sel alt done s h, pageeval_init sel alt done (mainItems s) h]
    cases done <;> rfl
  · have hrule : firstRule sel alt (applyCnt sel alt (mainItems s)) = firstRule sel alt (applyCnt sel alt s) := rfl
    rw [pageeval_of_ne_init sel alt done s h, pageeval_of_ne_init sel alt done (mainItems s) h, hrule]
    cases firstRule sel alt (applyCnt sel alt s) <;> rfl

theorem mainItems_pageeval_congr {s s' : State} (sel alt done : Bool) (hm : mainItems s = mainItems s') :
    mainItems (pageeval sel alt done s) = mainItems (pageeval sel alt done s') := by
  rw [mainItems_pageeval, hm, ← mainItems_pageeval]

theorem block_pageeval_congr {s s' : State} (sel alt done : Bool) (h : block s = block s') :
    block (pageeval sel alt done s) = block (pageeval sel alt done s') := by
  refine block_eq_iff.mpr ⟨?_, mainItems_pageeval_congr sel alt done (mainItems_congr h)⟩
  rw [receiver_pageeval, receiver_pageeval, receiver_congr h]

/-! #### RXPOLL: on both, but on no output and no stimulus -/

/-- VALIDATE's own part writes nothing but the comparison and its outputs (R172). -/
theorem recordChecksum_frame (p : Config.Params) (s : State) :
    recordChecksum p s = { s with csumBad := checksumBad p s, out := (recordChecksum p s).out } := by
  unfold recordChecksum
  split
  · next h => rw [h]; rfl
  · next h => rw [Bool.eq_false_of_not_eq_true h]

theorem latched_recordChecksum (p : Config.Params) (s : State) : latched (recordChecksum p s) = latched s := by
  rw [recordChecksum_frame]
  rfl

/-- The poll writes `TELEM` only where a pending frame is not rejected, from the latch (R173). -/
theorem rxpoll_telem (p : Config.Params) (s : State) :
    (rxpoll p s).telem = if s.frdy then (if rejects p s then s.telem else telemOfBytes (latched s)) else s.telem := by
  unfold rxpoll validate
  split
  · split
    · change (recordChecksum p s).telem = s.telem
      rw [recordChecksum_frame]
    · exact congrArg telemOfBytes (latched_recordChecksum p s)
  · rfl

/-- The poll writes `CSUM_BAD` only where a frame is pending, with the comparison (R172). -/
theorem rxpoll_csumBad (p : Config.Params) (s : State) :
    (rxpoll p s).csumBad = if s.frdy then checksumBad p s else s.csumBad := by
  unfold rxpoll validate
  split
  · have hrec : (recordChecksum p s).csumBad = checksumBad p s := by rw [recordChecksum_frame]
    split <;> exact hrec
  · rfl

/-- What RXPOLL leaves in the block is read from the block. -/
theorem block_rxpoll (p : Config.Params) (s : State) : block (rxpoll p s) = block (rxpoll p (block s)) := by
  have htelem : (rxpoll p s).telem = (rxpoll p (block s)).telem := by rw [rxpoll_telem, rxpoll_telem]; rfl
  have hhealth : (rxpoll p s).linkHealth = (rxpoll p (block s)).linkHealth := by
    rw [rxpoll_linkHealth, rxpoll_linkHealth]; rfl
  have hcsum : (rxpoll p s).csumBad = (rxpoll p (block s)).csumBad := by rw [rxpoll_csumBad, rxpoll_csumBad]; rfl
  rw [rxpoll_frame p s, rxpoll_frame p (block s), htelem, hhealth, hcsum]
  rfl

theorem block_rxpoll_congr {s s' : State} (p : Config.Params) (h : block s = block s') :
    block (rxpoll p s) = block (rxpoll p s') := by
  rw [block_rxpoll, h, ← block_rxpoll]

/-! ### A byte inside a TICK (R80) -/

/-- The order of a TXSTEP and an RXBYTE is not seen in the block, whatever outputs each starts from. -/
theorem block_rxbyte_txstep_comm {b : Byte} {p : Config.Params} {btn : Buttons} {s₁ s₂ u₁ u₂ t₁ t₂ : State}
    (hs : block s₁ = block s₂) (hu₁ : txstep p btn s₁ = .ok u₁) (ht₁ : rxbyteEvent b u₁ = .ok t₁)
    (hu₂ : rxbyteEvent b s₂ = .ok u₂) (ht₂ : txstep p btn (clearOut u₂) = .ok t₂) : block t₁ = block t₂ := by
  refine block_eq_iff.mpr ⟨?_, ?_⟩
  · have hr : receiver u₁ = receiver s₂ := (receiver_of_txstep hu₁).trans (receiver_congr hs)
    exact (receiver_rxbyteEvent_congr hr ht₁ hu₂).trans (receiver_of_txstep ht₂).symm
  · have hm : mainItems s₁ = mainItems (clearOut u₂) :=
      (mainItems_congr hs).trans (mainItems_of_rxbyteEvent hu₂).symm
    exact (mainItems_of_rxbyteEvent ht₁).trans (mainItems_txstep_congr hm hu₁ ht₂)

/-- The order of a PAGEEVAL and an RXBYTE is not seen in the block. -/
theorem block_rxbyte_pageeval_comm {b : Byte} {sel alt done : Bool} {s₁ s₂ u t : State} (hs : block s₁ = block s₂)
    (hu : rxbyteEvent b s₁ = .ok u) (ht : rxbyteEvent b (pageeval sel alt done s₂) = .ok t) :
    block (pageeval sel alt done u) = block t := by
  refine block_eq_iff.mpr ⟨?_, ?_⟩
  · have hr : receiver s₁ = receiver (pageeval sel alt done s₂) := by rw [receiver_pageeval, receiver_congr hs]
    rw [receiver_pageeval, receiver_rxbyteEvent_congr hr hu ht]
  · have hm : mainItems u = mainItems s₂ := (mainItems_of_rxbyteEvent hu).trans (mainItems_congr hs)
    rw [mainItems_of_rxbyteEvent ht, mainItems_pageeval_congr sel alt done hm]

/-- A byte between TXSTEP and RXPOLL acts as one before the TICK. -/
theorem rxbyte_after_txstep_as_before_tick (s : State) (b : Byte) (i : TickInputs) :
    ∃ t u, run [.txstep i.btn, .rxbyte b, .rxpoll, .pageeval i.modeSel i.modeAlt i.initSeqDone] s = .next t ∧
      run [.rxbyte b, .tick i] s = .next u ∧ block t = block u := by
  obtain ⟨u₁, hu₁, -⟩ := txstep_ok Config.params i.btn s
  obtain ⟨v₁, hv₁, -⟩ := rxbyteEvent_ok b u₁
  obtain ⟨u₂, hu₂, -⟩ := rxbyteEvent_ok b s
  obtain ⟨v₂, hv₂, htick⟩ := tickEvent_eq Config.params i u₂
  have hv : block v₁ = block v₂ := block_rxbyte_txstep_comm rfl hu₁ hv₁ hu₂ hv₂
  refine ⟨_, _, ?_, ?_, block_pageeval_congr i.modeSel i.modeAlt i.initSeqDone (block_rxpoll_congr Config.params hv)⟩
  · rw [run_cons_next _ (exec_txstep_of_ok hu₁), run_cons_next _ (exec_rxbyte_of_ok hv₁)]
    rfl
  · rw [run_cons_next _ (exec_rxbyte_of_ok hu₂), run_singleton, exec_tick_of_ok htick]

/-- A byte between RXPOLL and PAGEEVAL acts as one after the TICK. -/
theorem rxbyte_before_pageeval_as_after_tick (s : State) (b : Byte) (i : TickInputs) :
    ∃ t u, run [.txstep i.btn, .rxpoll, .rxbyte b, .pageeval i.modeSel i.modeAlt i.initSeqDone] s = .next t ∧
      run [.tick i, .rxbyte b] s = .next u ∧ block t = block u := by
  obtain ⟨u₁, hu₁, -⟩ := txstep_ok Config.params i.btn s
  obtain ⟨v₁, hv₁, -⟩ := rxbyteEvent_ok b (rxpoll Config.params u₁)
  obtain ⟨u₂, hu₂, htick⟩ := tickEvent_eq Config.params i s
  obtain ⟨v₂, hv₂, -⟩ :=
    rxbyteEvent_ok b (pageeval i.modeSel i.modeAlt i.initSeqDone (rxpoll Config.params u₂))
  have hu : block u₁ = block u₂ := block_txstep_congr (s := s) (s' := clearOut s) rfl hu₁ hu₂
  refine ⟨_, v₂, ?_, ?_, block_rxbyte_pageeval_comm (block_rxpoll_congr Config.params hu) hv₁ hv₂⟩
  · have hpoll : exec .rxpoll u₁ = .next (rxpoll Config.params u₁) := rfl
    rw [run_cons_next _ (exec_txstep_of_ok hu₁), run_cons_next _ hpoll, run_cons_next _ (exec_rxbyte_of_ok hv₁)]
    rfl
  · rw [run_cons_next _ (exec_tick_of_ok htick), run_singleton, exec_rxbyte_of_ok hv₂]

/-- Settles O57: each context's operation reads and writes its own part of the block, so the byte moves past TXSTEP to the
front and past PAGEEVAL to the end; RXPOLL, which touches both parts, is passed by neither. -/
theorem atomicTickLosesNoInterleaving : Obligations.AtomicTickLosesNoInterleaving :=
  fun s b i => ⟨rxbyte_after_txstep_as_before_tick s b i, rxbyte_before_pageeval_as_after_tick s b i⟩

/-! ### The canonical form of the buffers (R60 to R63) -/

/-- The canonical form speaks of no output. -/
theorem buffersWf_clearOut {s : State} (h : BuffersWf s) : BuffersWf (clearOut s) := { h with }

/-! #### Under the receiver's operations -/

theorem buffersWf_emptyAssembler {s : State} (h : BuffersWf s) : BuffersWf (emptyAssembler s) :=
  { h with abuf := wf_zeros, abufSize := rfl }

theorem buffersWf_storeEffect {s : State} (h : BuffersWf s) : BuffersWf (storeEffect s) := { h with }

theorem buffersWf_desyncEffect {s : State} (h : BuffersWf s) : BuffersWf (desyncEffect s) :=
  { buffersWf_emptyAssembler h with }

/-- The handoff writes the 39 bytes of the window into the latch, which has 39 (R23). -/
theorem buffersWf_completeEffect {s : State} (h : BuffersWf s) : BuffersWf (completeEffect s) :=
  { buffersWf_emptyAssembler h with
    flatch := wf_ofBytes _
    flatchSize := within_ofBytes _ (length_bytes _ _ _).le }

theorem buffersWf_overflowReset {s : State} (h : BuffersWf s) : BuffersWf (overflowReset s) :=
  { buffersWf_emptyAssembler h with }

/-- A store that did not fault was inside `ABUF`. -/
theorem buffersWf_storeThen {b : Byte} {effect : State → State} {s t : State} (h : BuffersWf s)
    (ht : storeThen b effect s = .ok t) (heffect : ∀ {u}, BuffersWf u → BuffersWf (effect u)) : BuffersWf t := by
  unfold storeThen writeAt at ht
  split at ht
  · next hlt =>
    cases ht
    exact heffect { h with abuf := wf_write _ b h.abuf, abufSize := within_write _ b hlt h.abufSize }
  · cases ht

theorem buffersWf_rxCase {b : Byte} {s t : State} (h : BuffersWf s) (ht : rxCase b s = .ok t) : BuffersWf t := by
  unfold rxCase at ht
  split at ht
  · exact buffersWf_storeThen h ht buffersWf_storeEffect
  split at ht
  · exact buffersWf_storeThen h ht buffersWf_completeEffect
  · exact buffersWf_storeThen h ht buffersWf_desyncEffect

theorem buffersWf_rxbyteEvent {b : Byte} {s t : State} (h : BuffersWf s) (ht : rxbyteEvent b s = .ok t) :
    BuffersWf t := by
  unfold rxbyteEvent at ht
  split at ht
  · exact buffersWf_rxCase (buffersWf_overflowReset (buffersWf_clearOut h)) ht
  · exact buffersWf_rxCase (buffersWf_clearOut h) ht

theorem buffersWf_rxSeq {bs : List Byte} {s t : State} (h : BuffersWf s) (ht : rxSeq bs s = .ok t) : BuffersWf t := by
  induction bs generalizing s with
  | nil => cases ht; exact h
  | cons b bs ih =>
    obtain ⟨u, hu, -⟩ := rxbyteEvent_ok b s
    rw [rxSeq, hu] at ht
    exact ih (buffersWf_rxbyteEvent h hu) ht

/-! #### Under the operations of a TICK -/

/-- LOAD writes the eleven bytes of a frame into `TXBUF`, which has eleven (R162). -/
theorem buffersWf_loadTxbuf {s : State} (p : Config.Params) (btn : Buttons) (h : BuffersWf s) :
    BuffersWf (loadTxbuf p btn s) :=
  { h with txbuf := wf_ofBytes _, txbufSize := within_ofBytes _ (length_ctrlBytes _ _).le }

theorem buffersWf_sendByte {s t : State} (h : BuffersWf s) (ht : sendByte s = .ok t) : BuffersWf t := by
  unfold sendByte readAt at ht
  split at ht
  · cases ht; exact { h with }
  · cases ht

theorem buffersWf_txstep {p : Config.Params} {btn : Buttons} {s t : State} (h : BuffersWf s)
    (ht : txstep p btn s = .ok t) : BuffersWf t := by
  by_cases h₀ : s.txcur.val = 0
  · rw [txstep_load p btn s h₀] at ht
    exact buffersWf_sendByte (buffersWf_loadTxbuf p btn h) ht
  · by_cases h₁ : s.txcur.val < 11
    · rw [txstep_send p btn s h₀ h₁] at ht
      exact buffersWf_sendByte h ht
    · rw [txstep_gap p btn s (by omega)] at ht
      cases ht
      exact { h with }

theorem buffersWf_recordChecksum {p : Config.Params} {s : State} (h : BuffersWf s) : BuffersWf (recordChecksum p s) := by
  rw [recordChecksum_frame]
  exact { h with }

theorem buffersWf_validateAccept {p : Config.Params} {s : State} (h : BuffersWf s) : BuffersWf (validateAccept p s) :=
  { buffersWf_recordChecksum h with }

theorem buffersWf_validateReject {p : Config.Params} {s : State} (h : BuffersWf s) : BuffersWf (validateReject p s) :=
  { buffersWf_recordChecksum h with }

theorem buffersWf_validate {p : Config.Params} {s : State} (h : BuffersWf s) : BuffersWf (validate p s) := by
  unfold validate
  split
  · exact buffersWf_validateReject h
  · exact buffersWf_validateAccept h

theorem buffersWf_rxpoll {p : Config.Params} {s : State} (h : BuffersWf s) : BuffersWf (rxpoll p s) := by
  rw [rxpoll_frame]
  exact { h with }

theorem buffersWf_pageeval {s : State} (sel alt done : Bool) (h : BuffersWf s) :
    BuffersWf (pageeval sel alt done s) := by
  rw [pageeval_frame]
  exact { h with }

theorem buffersWf_applyP0 {s : State} (done : Bool) (h : BuffersWf s) : BuffersWf (applyP0 done s) := by
  cases done <;> exact { h with }

theorem buffersWf_tickEvent {p : Config.Params} {inputs : TickInputs} {s t : State} (h : BuffersWf s)
    (ht : tickEvent p inputs s = .ok t) : BuffersWf t := by
  obtain ⟨u, hu, hte⟩ := tickEvent_eq p inputs s
  cases hte.symm.trans ht
  exact buffersWf_pageeval _ _ _ (buffersWf_rxpoll (buffersWf_txstep (buffersWf_clearOut h) hu))

/-! #### Under every instruction -/

/-- Settles O60, instruction by instruction: `ABUF` is written by a store inside it, `FLATCH` and `TXBUF` by a whole frame of
their size, and nothing else writes a buffer but with zeros. -/
theorem everyInstructionKeepsTheBuffersCanonical : Obligations.EveryInstructionKeepsTheBuffersCanonical := by
  intro i s t h ht
  have hc : BuffersWf (clearOut s) := buffersWf_clearOut h
  cases i with
  | ctrlframe _ _ => exact buffersWf_rxSeq h (rxSeq_of_exec_ctrlframe ht)
  | telemframe _ _ => exact buffersWf_rxSeq h (rxSeq_of_exec_telemframe ht)
  | reset => cases ht; exact { buffersWf_reset with }
  | rxbyte _ => exact buffersWf_rxbyteEvent h (eq_ok_of_ending ht)
  | rxbyteOverflow _ => exact buffersWf_rxCase (buffersWf_overflowReset hc) (of_whenSelected ht).2
  | rxbyteStore _ => exact buffersWf_storeThen hc (of_whenSelected ht).2 buffersWf_storeEffect
  | rxbyteComplete _ => exact buffersWf_storeThen hc (of_whenSelected ht).2 buffersWf_completeEffect
  | rxbyteDesync _ => exact buffersWf_storeThen hc (of_whenSelected ht).2 buffersWf_desyncEffect
  | tick _ => exact buffersWf_tickEvent h (eq_ok_of_ending ht)
  | txstep _ => exact buffersWf_txstep h (eq_ok_of_ending ht)
  | txstepLoad btn => exact buffersWf_sendByte (buffersWf_loadTxbuf _ btn h) (of_whenSelected ht).2
  | txstepSend => exact buffersWf_sendByte h (of_whenSelected ht).2
  | rxpoll => cases ht; exact buffersWf_rxpoll h
  | rxpollValidate => rw [eq_of_whenSelected_ok ht]; exact buffersWf_validate h
  | rxpollAccept => rw [eq_of_whenSelected_ok ht]; exact buffersWf_validateAccept h
  | rxpollReject => rw [eq_of_whenSelected_ok ht]; exact buffersWf_validateReject h
  | pageeval _ _ _ => cases ht; exact buffersWf_pageeval _ _ _ h
  | pageevalP0 done => rw [eq_of_whenSelected_ok ht]; exact buffersWf_applyP0 done h
  | txstepGap | rxpollIdle | pageevalCnt _ _ | pageevalP1 | pageevalP2 | pageevalP3 | pageevalP4 | pageevalP5 _ _
  | pageevalP6 _ _ | pageevalNone _ _ => rw [eq_of_whenSelected_ok ht]; exact { h with }
  | encode _ | csum _ => cases ht; exact { h with }
  | decode _ =>
    obtain ⟨r, rfl⟩ := eq_returnResult_of_execDecode ht
    exact { h with }

end Sys2Proof.Machine
end

section
/-!
PROOFS. The encodings (30_encoding.md): every stimulus word decodes to its event with every operand (R90 to R98, R106), and a
clock performs the events of its EV pattern (R97).
-/

namespace Sys2Proof.Machine

/-! ### Event words (R97, R106) -/

/-- The input vector from its two bytes, the upper one first. -/
def inputVector (hi lo : Byte) : BitVec 12 := (hi ++ lo : BitVec 16).setWidth 12

theorem toNat_inputVector (hi lo : Byte) : (inputVector hi lo).toNat = (hi.toNat * 256 + lo.toNat) % 4096 := by
  have hlo := lo.isLt
  rw [inputVector, BitVec.toNat_setWidth, BitVec.toNat_append, ← Nat.shiftLeft_add_eq_or_of_lt hlo, Nat.shiftLeft_eq]

/-- The two bytes of an input vector give it back. -/
theorem inputVector_bytes (v : BitVec 12) : inputVector ((v >>> 8).setWidth 8) (v.setWidth 8) = v := by
  apply BitVec.eq_of_toNat_eq
  have hv := v.isLt
  rw [toNat_inputVector, BitVec.toNat_setWidth, BitVec.toNat_setWidth, BitVec.toNat_ushiftRight, Nat.shiftRight_eq_div_pow]
  omega

/-- An upper byte below 16 has no bit above the vector's twelve: the word of the vector is its two bytes. -/
theorem eventWord_inputVector (ev : BitVec 3) (data lo hi : Byte) (h : hi.toNat < 16) :
    eventWord ev data (inputVector hi lo) = [ev.setWidth 8, data, lo, hi] := by
  have hlo := lo.isLt
  have h₁ : (inputVector hi lo).setWidth 8 = lo := by
    apply BitVec.eq_of_toNat_eq
    rw [BitVec.toNat_setWidth, toNat_inputVector]
    omega
  have h₂ : (inputVector hi lo >>> 8).setWidth 8 = hi := by
    apply BitVec.eq_of_toNat_eq
    rw [BitVec.toNat_setWidth, BitVec.toNat_ushiftRight, toNat_inputVector, Nat.shiftRight_eq_div_pow]
    omega
  rw [eventWord, h₁, h₂]

theorem decodeStim_reset {ev : Byte} (data lo : Byte) {hi : Byte} (h₄ : 4 ≤ ev.toNat) (h₈ : ev.toNat < 8)
    (h : hi.toNat < 16) : decodeStim [ev, data, lo, hi] = .ok ⟨some .reset, none⟩ := by
  have hbit : ev.getLsbD 2 = true := by
    rw [BitVec.getLsbD]
    interval_cases ev.toNat <;> rfl
  rw [decodeStim, decodeEvent, if_neg (by omega), if_neg (by omega)]
  exact if_pos hbit

theorem decodeStim_rxbyte (data lo : Byte) {hi : Byte} (h : hi.toNat < 16) :
    decodeStim [0b001, data, lo, hi] = .ok ⟨some (.rxbyte data), none⟩ := by
  rw [decodeStim, decodeEvent, if_neg (by decide), if_neg (by omega)]
  rfl

theorem decodeStim_tick (data lo : Byte) {hi : Byte} (h : hi.toNat < 16) :
    decodeStim [0b010, data, lo, hi] = .ok ⟨some (.tick (TickInputs.ofBits (inputVector hi lo))), none⟩ := by
  rw [decodeStim, decodeEvent, if_neg (by decide), if_neg (by omega)]
  rfl

/-- Both strobes: the byte first, and the same clock's TICK to come. -/
theorem decodeStim_rxbyte_tick (data lo : Byte) {hi : Byte} (h : hi.toNat < 16) :
    decodeStim [0b011, data, lo, hi] = .ok ⟨some (.rxbyte data), some [0b010, data, lo, hi]⟩ := by
  have hw := eventWord_inputVector 0b010 data lo hi h
  rw [decodeStim, decodeEvent, if_neg (by decide), if_neg (by omega)]
  change Except.ok (Decoded.mk (some (.rxbyte data)) (some (eventWord 0b010 data (inputVector hi lo)))) = _
  rw [hw]
  rfl

theorem decodeStim_no_strobe (data lo : Byte) {hi : Byte} (h : hi.toNat < 16) :
    decodeStim [0b000, data, lo, hi] = .ok ⟨none, none⟩ := by
  rw [decodeStim, decodeEvent, if_neg (by decide), if_neg (by omega)]
  rfl

/-! ### Frames (R91, R92) -/

theorem flagOfByte_flagByte {F : List Byte} {i : Nat} {f : Bool} (h : byteAt F i = flagByte f) :
    flagOfByte F i = .ok f := by
  rw [flagOfByte, h]
  cases f <;> rfl

/-- A ControlFrame's bytes are read back flag by flag (R91, R94). -/
theorem decodeCtrl_ctrlBytes (btn : Buttons) (c : Byte) :
    decodeCtrl (ctrlBytes btn c) = .ok ⟨some (.ctrlframe btn c), none⟩ := by
  rw [decodeCtrl, flagOfByte_flagByte (f := btn.halfGas) rfl, flagOfByte_flagByte (f := btn.fullGas) rfl,
    flagOfByte_flagByte (f := btn.horn) rfl, flagOfByte_flagByte (f := btn.speedReset) rfl,
    flagOfByte_flagByte (f := btn.powerSupply) rfl, flagOfByte_flagByte (f := btn.scClose) rfl,
    flagOfByte_flagByte (f := btn.fuelcellOff) rfl, flagOfByte_flagByte (f := btn.fuelcellPrepareToRace) rfl,
    flagOfByte_flagByte (f := btn.fuelcellRace) rfl]
  rfl

theorem decodeStim_ctrlBytes (btn : Buttons) (c : Byte) :
    decodeStim (ctrlBytes btn c) = .ok ⟨some (.ctrlframe btn c), none⟩ := decodeCtrl_ctrlBytes btn c

/-- A field is read back from the bytes at its offset (R66, R93). -/
theorem memRead_of_slice {F : List Byte} {off n : Nat} {v : BitVec (8 * n)}
    (h : (F.drop off).take n = leBytes n v.toNat) : memRead F off n = v := by
  rw [memRead, h, ofNat_leNat_leBytes]

/-- A TelemetryFrame's bytes are read back field by field (R92, R124). -/
theorem telemOfBytes_telemBytes (t : Telem) (c : Byte) : telemOfBytes (telemBytes t c) = t := by
  obtain ⟨_, _, _, _, _, _, _, _, _, _, _, _, _, _, _, _⟩ := t
  simp only [telemOfBytes, Telem.mk.injEq]
  and_intros <;> exact memRead_of_slice (by simp [telemBytes, telemPayload, leBytes])

/-- The two bytes after the fields (R92). -/
theorem byteAt_telemBytes (t : Telem) (c : Byte) (i : Nat) :
    byteAt (telemBytes t c) (37 + i) = byteAt [c, Config.EOT] i := by
  rw [byteAt, telemBytes, List.getD_append_right _ _ _ _ (by simp), length_telemPayload, Nat.add_sub_cancel_left]
  rfl

/-- A word of 39 bytes is read as a TelemetryFrame (R90, R92). -/
theorem decodeStim_of_length {F : List Byte} (h : F.length = 39) : decodeStim F = decodeTelem F := by
  unfold decodeStim
  split
  · cases h
  · rw [h]
    rfl

theorem decodeStim_telemBytes (t : Telem) (c : Byte) :
    decodeStim (telemBytes t c) = .ok ⟨some (.telemframe t c), none⟩ := by
  have hcsum : byteAt (telemBytes t c) Config.RX_CSUM_OFF = c := byteAt_telemBytes t c 0
  have hmarker : byteAt (telemBytes t c) Config.RX_EOT_OFF = Config.EOT := byteAt_telemBytes t c 1
  rw [decodeStim_of_length (length_telemBytes t c), decodeTelem, if_pos hmarker, telemOfBytes_telemBytes, hcsum]

/-! ### Every instruction's word -/

/-- The word of an event decodes to it, with every operand and nothing else in the same clock (R90 to R92, R97, R106). -/
theorem decodeStim_word (e : Event) : decodeStim e.word = .ok ⟨some e.instr, none⟩ := by
  cases e with
  | ctrlframe btn c => exact decodeStim_ctrlBytes btn c
  | telemframe t c => exact decodeStim_telemBytes t c
  | reset => exact decodeStim_reset 0 0 (by decide) (by decide) (by decide)
  | rxbyte b => exact decodeStim_rxbyte b 0 (by decide)
  | tick inputs =>
    have hi : ((inputs.toBits >>> 8).setWidth 8).toNat < 16 := by
      have := inputs.toBits.isLt
      rw [BitVec.toNat_setWidth, BitVec.toNat_ushiftRight, Nat.shiftRight_eq_div_pow]
      omega
    have h := decodeStim_tick 0 (inputs.toBits.setWidth 8) hi
    rwa [inputVector_bytes, ofBits_toBits] at h

/-- The word of an instruction decodes to its event (R98). -/
theorem decode_encode (i : Instr) : decode (encode i) = .ok (eventOf i).instr := by
  rw [decode, encode, decodeStim_word]

/-- Settles O6: every clause is `decode_encode` at the row's own event. -/
theorem encodedWordsDecodeToTheirEvent : Obligations.EncodedWordsDecodeToTheirEvent := by
  have hplain : ∀ i ∈ [Instr.txstepSend, .txstepGap, .rxpoll, .rxpollIdle, .rxpollValidate, .rxpollAccept, .rxpollReject,
      .pageevalP1, .pageevalP2, .pageevalP3, .pageevalP4], (eventOf i).instr = .tick .none := by decide
  refine ⟨fun i _ => ⟨decodeStim_word (eventOf i), ?_, ?_, ?_, ?_, ?_⟩,
    fun b => ⟨decode_encode _, decode_encode _, decode_encode _, decode_encode _⟩,
    fun btn => ⟨decode_encode _, decode_encode _, decode_encode _⟩,
    fun i hi => (decode_encode i).trans (congrArg Except.ok (hplain i hi)),
    fun bytes => ⟨decode_encode _, decode_encode _⟩,
    fun sel alt done => ⟨decode_encode _, decode_encode _, decode_encode _, decode_encode _, decode_encode _,
      decode_encode _⟩⟩
  · rintro btn c rfl; exact decode_encode _
  · rintro t c rfl; exact decode_encode _
  · rintro rfl; exact decode_encode _
  · rintro b rfl; exact decode_encode _
  · rintro inputs rfl; exact decode_encode _

/-! ### Words written out (R91, R92, R97, R106) -/

/-- Settles O7: each word is decoded as it stands. -/
theorem writtenOutWordsDecode : Obligations.WrittenOutWordsDecode := by
  refine ⟨?_, ?_, ?_, ?_, ?_, ?_, ?_, ?_, ?_, ?_, ?_, ?_, ?_, ?_, ?_⟩ <;> decide

/-! ### The events of a clock (R97) -/

/-- A clock without a strobe only takes its word. -/
theorem stepBy_of_no_strobe (ex : Instr → State → Host.Outcome State Fault Refusal) {s : State} {w : List Byte}
    {rest : List (List Byte)} (hs : s.stim = w :: rest) (hd : decodeStim w = .ok ⟨none, none⟩) :
    stepBy ex s = .next (setStim rest s) := by
  have hf : fetch s = some (.ok (none, setStim rest s)) := by
    rw [fetch, hs]
    simp only [hd, Except.map]
    rfl
  rw [stepBy, hf]

theorem stepBy_of_no_stim (ex : Instr → State → Host.Outcome State Fault Refusal) {s : State} (hs : s.stim = []) :
    stepBy ex s = .next s := by
  have hf : fetch s = none := by rw [fetch, hs]
  rw [stepBy, hf]

/-- An RXBYTE neither reads nor writes what the environment sends next. -/
theorem rxbyteEvent_setStim {b : Byte} {s t : State} (stim : List (List Byte)) (h : rxbyteEvent b s = .ok t) :
    rxbyteEvent b (setStim stim s) = .ok (setStim stim t) := by
  rcases Nat.lt_trichotomy s.cur.toNat 38 with hc | hc | hc
  · cases (rxbyteEvent_store b s hc).symm.trans h
    exact rxbyteEvent_store b (setStim stim s) hc
  · by_cases hb : b = 0x17
    · subst hb
      cases (rxbyteEvent_complete s hc).symm.trans h
      exact rxbyteEvent_complete (setStim stim s) hc
    · cases (rxbyteEvent_desync b s hc hb).symm.trans h
      exact rxbyteEvent_desync b (setStim stim s) hc hb
  · cases (rxbyteEvent_overflow b s hc).symm.trans h
    exact rxbyteEvent_overflow b (setStim stim s) hc

/-- `EV = 011`: the byte, then the same clock's TICK on the state the byte left. -/
theorem step_rxbyte_tick {s : State} {data lo hi : Byte} {rest : List (List Byte)} (h : hi.toNat < 16)
    (hs : s.stim = [0b011, data, lo, hi] :: rest) :
    ∃ t u, step s = .next t ∧ exec (.rxbyte data) (setStim rest s) = .next u ∧
      t = setStim ([0b010, data, lo, hi] :: rest) u ∧
      step t = exec (.tick (TickInputs.ofBits (inputVector hi lo))) u := by
  obtain ⟨u, hu, hus⟩ := rxbyteEvent_ok data (setStim rest s)
  have hstim : u.stim = rest := by rw [hus]; rfl
  have hstep : step s = .next (setStim ([0b010, data, lo, hi] :: rest) u) :=
    (stepBy_of_decodeStim exec hs (decodeStim_rxbyte_tick data lo h)).trans
      (exec_rxbyte_of_ok (rxbyteEvent_setStim (s := setStim rest s) _ hu))
  refine ⟨_, u, hstep, exec_rxbyte_of_ok hu, rfl, ?_⟩
  refine (stepBy_of_decodeStim exec rfl (decodeStim_tick data lo h)).trans (congrArg (exec _) ?_)
  rw [← hstim]
  rfl

/-- Settles O9, row by row of R97's table. -/
theorem clockPerformsItsEvents : Obligations.ClockPerformsItsEvents := by
  intro s data lo hi rest h
  exact ⟨fun ev h₄ h₈ hs => stepBy_of_decodeStim exec hs (decodeStim_reset data lo h₄ h₈ h),
    fun hs => stepBy_of_decodeStim exec hs (decodeStim_rxbyte data lo h),
    fun hs => stepBy_of_decodeStim exec hs (decodeStim_tick data lo h),
    fun hs => step_rxbyte_tick h hs,
    fun hs => stepBy_of_no_strobe exec hs (decodeStim_no_strobe data lo h),
    fun hs => stepBy_of_no_stim exec hs⟩

/-! ### Codes and level outputs (R50, R99) -/

/-- Settles O19: each code by its definition; the reserved ones value by value. -/
theorem levelOutputsAndCodes : Obligations.LevelOutputsAndCodes := by
  refine ⟨⟨rfl, rfl, rfl, rfl⟩, ⟨rfl, rfl, rfl, fun h => ?_⟩, ⟨rfl, rfl, rfl, fun o => ?_⟩, ⟨rfl, rfl, rfl, fun o => ?_⟩,
    ⟨rfl, rfl, rfl, rfl, rfl, rfl, rfl, rfl⟩, ⟨rfl, rfl⟩, fun s => ⟨rfl, rfl, rfl, rfl, rfl⟩⟩
  · cases h <;> decide
  · cases o <;> decide
  · cases o <;> decide

end Sys2Proof.Machine
end

section
/-!
PROOFS. Frames on the line (R90 to R92, R107): a run of RXBYTE events is one computation over the assembler, its stores
write one stretch of `ABUF`, and 39 bytes from any cursor in range bring the assembler back to that cursor.
-/

namespace Sys2Proof.Machine

open Claims

/-! ### Runs of RXBYTE events (R107) -/

/-- A whole telemetry frame on the line is the run of its bytes (R92). -/
theorem exec_telemframe (t : Telem) (c : Byte) (s : State) :
    exec (.telemframe t c) s = ending (rxSeq (telemBytes t c) s) := rfl

/-- A whole control frame on the line is the run of its bytes (R91, R277). -/
theorem exec_ctrlframe (btn : Buttons) (c : Byte) (s : State) :
    exec (.ctrlframe btn c) s = ending (rxSeq (ctrlBytes btn c) s) := rfl

/-- The run of one RXBYTE per byte is `rxSeq`. -/
theorem run_rxOps (bs : List Byte) (s : State) : run (rxOps bs) s = ending (rxSeq bs s) := by
  induction bs generalizing s with
  | nil => rfl
  | cons b bs ih =>
    obtain ⟨t, ht, -⟩ := rxbyteEvent_ok b s
    rw [rxOps, List.map_cons, run_cons_next _ (exec_rxbyte_of_ok ht), rxSeq, ht]
    exact ih t

theorem rxSeq_append {bs : List Byte} {s t : State} (cs : List Byte) (h : rxSeq bs s = .ok t) :
    rxSeq (bs ++ cs) s = rxSeq cs t := by
  induction bs generalizing s with
  | nil => cases h; rfl
  | cons b bs ih =>
    obtain ⟨u, hu, -⟩ := rxbyteEvent_ok b s
    rw [rxSeq, hu] at h
    rw [List.cons_append, rxSeq, hu]
    exact ih h

theorem rxSeq_singleton (b : Byte) (s : State) : rxSeq [b] s = rxbyteEvent b s := by
  obtain ⟨t, ht, -⟩ := rxbyteEvent_ok b s
  rw [rxSeq, ht]
  rfl

/-! ### Stores one after the other (R142) -/

/-- The outcome record of an RXBYTE that stores. -/
def storedRecord : Outputs := { Outputs.idle with rxOutcome := some .stored }

/-- The state after these bytes are stored from the cursor on. -/
def afterStores (bs : List Byte) (s : State) : State :=
  { s with
    abuf := s.abuf.writeBytes s.cur.toNat bs
    cur := s.cur + BitVec.ofNat Config.CURW bs.length
    out := if bs = [] then s.out else storedRecord }

theorem afterStores_nil (s : State) : afterStores [] s = s := by
  rw [afterStores, List.length_nil, BitVec.add_zero]
  rfl

/-- Bytes that end before index 38 are stored. -/
theorem rxSeq_eq_afterStores (bs : List Byte) (s : State) (h : s.cur.toNat + bs.length ≤ 38) :
    rxSeq bs s = .ok (afterStores bs s) := by
  induction bs generalizing s with
  | nil => rw [afterStores_nil]; rfl
  | cons b bs ih =>
    rw [List.length_cons] at h
    have hc : (s.cur + 1).toNat = s.cur.toNat + 1 := toNat_cur_add_one (by omega)
    have hsum : s.cur + 1 + BitVec.ofNat Config.CURW bs.length = s.cur + BitVec.ofNat Config.CURW (bs.length + 1) := by
      rw [BitVec.add_assoc, Nat.add_comm bs.length, BitVec.ofNat_add]
      rfl
    rw [rxSeq, rxbyteEvent_store b s (by omega)]
    refine (ih _ (by rw [hc]; omega)).trans (congrArg Except.ok ?_)
    simp only [afterStores, hc, hsum, Memory.writeBytes, List.length_cons, reduceCtorEq, if_false]
    split <;> rfl

theorem toNat_cur_afterStores (bs : List Byte) (s : State) (h : s.cur.toNat + bs.length ≤ 38) :
    (afterStores bs s).cur.toNat = s.cur.toNat + bs.length := by
  rw [afterStores, BitVec.toNat_add, BitVec.toNat_ofNat]
  change (s.cur.toNat + bs.length % 64) % 64 = _
  omega

/-! ### A whole window (R143, R144, R149) -/

/-- The byte on the last index empties the assembler, and makes a frame pending exactly if it is the marker. -/
theorem rxbyteEvent_last (b : Byte) (s : State) (h : s.cur.toNat = 38) :
    ∃ t, rxbyteEvent b s = .ok t ∧ t.cur = 0 ∧ (t.frdy = true ↔ s.frdy = true ∨ b = 0x17) := by
  by_cases hb : b = 0x17
  · subst hb
    exact ⟨_, rxbyteEvent_complete s h, rfl, iff_of_true rfl (.inr rfl)⟩
  · exact ⟨_, rxbyteEvent_desync b s h hb, rfl, (or_iff_left hb).symm⟩

/-- 39 bytes from a cursor in range: stores up to the last index, the byte there, and stores back to the same cursor. -/
theorem rxSeq_window (F : List Byte) (s : State) (hF : F.length = 39) (hc : s.cur.toNat ≤ 38) :
    ∃ u, rxSeq F s = .ok u ∧ u.cur = s.cur ∧
      (u.frdy = true ↔ s.frdy = true ∨ byteAt F (38 - s.cur.toNat) = 0x17) := by
  generalize hk : 38 - s.cur.toNat = k
  have hsplit : F.take k ++ (byteAt F k :: F.drop (k + 1)) = F := by
    rw [byteAt, List.getD_eq_getElem _ _ (by omega), List.getElem_cons_drop, List.take_append_drop]
  have h₁ : s.cur.toNat + (F.take k).length ≤ 38 := by rw [List.length_take]; omega
  have hlast : (afterStores (F.take k) s).cur.toNat = 38 := by
    rw [toNat_cur_afterStores _ _ h₁, List.length_take]
    omega
  obtain ⟨t, ht, htc, htf⟩ := rxbyteEvent_last (byteAt F k) _ hlast
  have h₂ : t.cur.toNat + (F.drop (k + 1)).length ≤ 38 := by
    rw [htc, List.length_drop]
    change 0 + (F.length - (k + 1)) ≤ 38
    omega
  refine ⟨afterStores (F.drop (k + 1)) t, ?_, ?_, htf⟩
  · rw [← hsplit, rxSeq_append _ (rxSeq_eq_afterStores _ s h₁), rxSeq, ht, hsplit]
    exact rxSeq_eq_afterStores _ t h₂
  · apply BitVec.eq_of_toNat_eq
    rw [toNat_cur_afterStores _ _ h₂, htc, List.length_drop]
    change 0 + (F.length - (k + 1)) = _
    omega

/-! ### The TelemetryFrame (R92, R147, R150) -/

theorem write_writeBytes (bs : List Byte) (b : Byte) (m : Memory) (a : Nat) :
    (m.writeBytes a bs).write (a + bs.length) b = m.writeBytes a (bs ++ [b]) := by
  induction bs generalizing m a with
  | nil => rfl
  | cons c bs ih =>
    rw [List.length_cons, Nat.add_comm bs.length, ← Nat.add_assoc]
    exact ih _ _

/-- The bytes written are read back. -/
theorem bytes_writeBytes (bs : List Byte) (m : Memory) (a : Nat) : (m.writeBytes a bs).bytes a bs.length = bs := by
  apply List.ext_getElem (length_bytes _ _ _)
  intro i h₁ h₂
  rw [← List.getD_eq_getElem _ 0 h₁, getD_bytes _ _ _ _ h₂, read_writeBytes, if_pos (by omega), Nat.add_sub_cancel_left,
    List.getD_eq_getElem _ _ h₂]

/-- From `Collecting(0)`, 38 bytes and the marker are latched whole, and nothing else of the block changes. -/
theorem rxSeq_aligned (bs : List Byte) (s : State) (hc : s.cur = 0) (hb : bs.length = 38) :
    rxSeq (bs ++ [0x17]) s = .ok { s with
      abuf := [], cur := 0, flatch := Memory.ofBytes (bs ++ [0x17]), frdy := true,
      out := { Outputs.idle with rxOutcome := some .complete } } := by
  have h₀ : s.cur.toNat = 0 := by rw [hc]; rfl
  have h₁ : s.cur.toNat + bs.length ≤ 38 := by omega
  have hlast : (afterStores bs s).cur.toNat = 38 := by rw [toNat_cur_afterStores _ _ h₁]; omega
  have hlatch : ((afterStores bs s).abuf.write 38 0x17).bytes 0 39 = bs ++ [0x17] := by
    have hw := write_writeBytes bs 0x17 s.abuf 0
    have hr := bytes_writeBytes (bs ++ [0x17]) s.abuf 0
    rw [Nat.zero_add, hb] at hw
    rw [List.length_append, hb] at hr
    rw [afterStores, h₀, hw]
    exact hr
  rw [rxSeq_append _ (rxSeq_eq_afterStores bs s h₁), rxSeq_singleton, rxbyteEvent_complete _ hlast, hlatch]
  rfl

/-- Settles O10: the row is its run of RXBYTE events; aligned, that is `rxSeq_aligned`, and from any cursor in range
`rxSeq_window`. -/
theorem telemetryFrameIsLatchedWhole : Obligations.TelemetryFrameIsLatchedWhole := by
  intro t c s
  have hrow : exec (.telemframe t c) s = ending (rxSeq (telemPayload t ++ [c, 0x17]) s) :=
    exec_telemframe t c s
  refine ⟨hrow.trans (run_rxOps _ s).symm, fun h₀ => ?_, fun hc => ?_⟩
  · have h := rxSeq_aligned (telemPayload t ++ [c]) s h₀ (by simp)
    rw [List.append_assoc] at h
    rw [hrow]
    exact congrArg ending h
  · obtain ⟨u, hu, hcur, hfrdy⟩ := rxSeq_window (telemPayload t ++ [c, 0x17]) s (by simp) hc
    exact ⟨u, hrow.trans (congrArg ending hu), hcur, hfrdy⟩

/-! ### The ControlFrame (R91, R277) -/

/-- The frame's bytes as the rules write them out are those of the layout (R91, R94). -/
theorem flagsAndMarker_eq_ctrlBody (btn : Buttons) : flagsAndMarker btn = ctrlBody btn := by
  simp only [flagsAndMarker, ctrlBody, flagByte_eq, flagVal]

/-- Settles O11: the row is its run of RXBYTE events, which are all stores where eleven bytes have room. -/
theorem deliveredControlFrameIsElevenBytes : Obligations.DeliveredControlFrameIsElevenBytes := by
  intro btn c s
  have hrow : exec (.ctrlframe btn c) s = ending (rxSeq (flagsAndMarker btn ++ [c]) s) := by
    rw [flagsAndMarker_eq_ctrlBody]
    exact exec_ctrlframe btn c s
  refine ⟨hrow.trans (run_rxOps _ s).symm, fun hc => ?_⟩
  have hlen : (flagsAndMarker btn ++ [c]).length = 11 := rfl
  refine ⟨afterStores (flagsAndMarker btn ++ [c]) s, ?_, rfl, fun i => ?_⟩
  · rw [hrow, rxSeq_eq_afterStores _ s (by omega)]
    rfl
  · exact read_writeBytes _ s.abuf s.cur.toNat i

end Sys2Proof.Machine
end

section
/-!
PROOFS. What an instruction's run can end in (30_encoding.md): events complete in every state and nothing faults (R103), and a
case that its condition does not select is refused by its name (R98, R100).
-/

namespace Sys2Proof.Machine

open Claims

/-! ### Completion (R103) -/

/-- Settles O50: each event ends by the lemma of its part, and RESET, RXPOLL and PAGEEVAL are functions of the state. -/
theorem everyInputCompletes : Obligations.EveryInputCompletes := by
  intro s
  refine ⟨⟨_, rfl⟩, fun b => ?_, fun inputs => ?_, fun btn => ?_, ⟨_, rfl⟩, fun sel alt done => ⟨_, rfl⟩,
    fun f c => ?_, fun btn c => ?_⟩
  · obtain ⟨t, ht, -⟩ := rxbyteEvent_ok b s
    exact ⟨t, exec_rxbyte_of_ok ht⟩
  · obtain ⟨u, -, ht⟩ := tickEvent_eq Config.params inputs s
    exact ⟨_, exec_tick_of_ok ht⟩
  · obtain ⟨t, ht, -⟩ := txstep_ok Config.params btn s
    exact ⟨t, exec_txstep_of_ok ht⟩
  · obtain ⟨t, ht, -⟩ := rxSeq_ok (telemBytes f c) s
    exact ⟨t, (exec_telemframe f c s).trans (congrArg ending ht)⟩
  · obtain ⟨t, ht, -⟩ := rxSeq_ok (ctrlBytes btn c) s
    exact ⟨t, (exec_ctrlframe btn c s).trans (congrArg ending ht)⟩

/-! ### No fault (R103) -/

theorem ne_fault_of_next {o : Host.Outcome State Fault Refusal} (f : Fault) (h : ∃ t, o = .next t) : o ≠ .fault f := by
  obtain ⟨t, rfl⟩ := h
  exact nofun

/-- A case whose computation ends wherever it is selected does not fault. -/
theorem whenSelected_ne_fault {m : String} {c : Bool} {r : Except Fault State} (f : Fault)
    (h : c = true → ∃ t, r = .ok t) : whenSelected m c r ≠ .fault f := by
  cases c with
  | true =>
    obtain ⟨t, rfl⟩ := h rfl
    exact nofun
  | false => exact nofun

theorem execDecode_ne_fault (bytes : List Byte) (s : State) (f : Fault) : execDecode bytes s ≠ .fault f := by
  unfold execDecode
  split <;> exact nofun

/-- A store at the last index is within the buffer. -/
theorem storeThen_ok_of_atLastIndex (b : Byte) (effect : State → State) {s : State} (h : atLastIndex s = true) :
    ∃ t, storeThen b effect (clearOut s) = .ok t := by
  have hc := (atLastIndex_iff s).mp h
  exact ⟨_, storeThen_of_lt b effect _ (show s.cur.toNat < 39 by omega)⟩

/-- Settles O51: the events complete (O50), and the cases access a buffer by an index in two ways alone, RXBYTE's store inside
`ABUF` and SEND's read at a position below 11. -/
theorem noInstructionFaults : Obligations.NoInstructionFaults := by
  intro i s f
  obtain ⟨hreset, hrxbyte, htick, htxstep, hrxpoll, hpageeval, htelemframe, hctrlframe⟩ := everyInputCompletes s
  cases i with
  | ctrlframe btn c => exact ne_fault_of_next f (hctrlframe btn c)
  | telemframe fields c => exact ne_fault_of_next f (htelemframe fields c)
  | reset => exact ne_fault_of_next f hreset
  | rxbyte b => exact ne_fault_of_next f (hrxbyte b)
  | rxbyteOverflow b =>
    refine whenSelected_ne_fault f fun _ => ?_
    exact ⟨_, storeThen_of_lt b storeEffect (overflowReset (clearOut s)) (show (0 : ℕ) < 39 by decide)⟩
  | rxbyteStore b =>
    refine whenSelected_ne_fault f fun h => ?_
    have hc : s.cur.toNat < 39 := by
      rw [Bool.and_eq_true, Bool.not_eq_true', ← Bool.not_eq_true, overflowing_iff] at h
      omega
    exact ⟨_, storeThen_of_lt b storeEffect (clearOut s) hc⟩
  | rxbyteComplete b | rxbyteDesync b =>
    exact whenSelected_ne_fault f fun h => storeThen_ok_of_atLastIndex b _ (Bool.and_eq_true_iff.mp h).1
  | tick inputs => exact ne_fault_of_next f (htick inputs)
  | txstep btn => exact ne_fault_of_next f (htxstep btn)
  | txstepLoad btn =>
    refine whenSelected_ne_fault f fun h => ?_
    have h₀ : s.txcur.val = 0 := of_decide_eq_true h
    exact ⟨_, sendByte_of_lt (loadTxbuf Config.params btn s) (show s.txcur.val < 11 by omega)⟩
  | txstepSend => exact whenSelected_ne_fault f fun h => ⟨_, sendByte_of_lt s (of_decide_eq_true h)⟩
  | rxpoll => exact ne_fault_of_next f hrxpoll
  | pageeval sel alt done => exact ne_fault_of_next f (hpageeval sel alt done)
  | txstepGap | rxpollIdle | rxpollValidate | rxpollAccept | rxpollReject | pageevalP0 _ | pageevalCnt _ _ | pageevalP1
  | pageevalP2 | pageevalP3 | pageevalP4 | pageevalP5 _ _ | pageevalP6 _ _ | pageevalNone _ _ =>
    exact whenSelected_ne_fault f fun _ => ⟨_, rfl⟩
  | encode _ | csum _ => exact ne_fault_of_next f ⟨_, rfl⟩
  | decode bytes => exact execDecode_ne_fault bytes s f

/-! ### What selects a case (R98) -/

theorem refused_of_not_selected {m : String} {c : Bool} {r : Except Fault State} (h : ¬c = true) :
    whenSelected m c r = .refused (.caseNotSelected m) := if_neg h

theorem evaluating_iff (s : State) : evaluating s = true ↔ s.page ≠ .init := decide_eq_true_iff

theorem guardP1_iff (s : State) : guardP1 s = true ↔ LeakSeen s := leak_iff s

theorem guardP2_iff (s : State) : guardP2 s = true ↔ s.page = .leak ∧ ¬LeakSeen s ∧ ¬EmergSeen s := by
  simp only [guardP2, Bool.and_eq_true, Bool.not_eq_true', ← Bool.not_eq_true, leak_iff, emerg_iff, decide_eq_true_iff]
  tauto

theorem guardP3_iff (s : State) : guardP3 s = true ↔ s.page ≠ .emergency ∧ ¬LeakSeen s ∧ EmergSeen s := by
  simp only [guardP3, Bool.and_eq_true, Bool.not_eq_true', ← Bool.not_eq_true, leak_iff, emerg_iff, decide_eq_true_iff]
  tauto

theorem guardP4_iff (s : State) : guardP4 s = true ↔ s.page = .emergency ∧ ¬LeakSeen s ∧ ¬EmergSeen s := by
  simp only [guardP4, Bool.and_eq_true, Bool.not_eq_true', ← Bool.not_eq_true, leak_iff, emerg_iff, decide_eq_true_iff]
  tauto

theorem guardP5_iff (sel alt : Bool) (s : State) :
    guardP5 sel alt s = true ↔ sel = true ∧ ¬alt = true ∧ s.page ≠ .mode1 ∧ ¬LeakSeen s ∧ ¬EmergSeen s := by
  simp only [guardP5, Bool.and_eq_true, Bool.not_eq_true', ← Bool.not_eq_true, leak_iff, emerg_iff, decide_eq_true_iff]
  tauto

theorem comboFull_iff (s : State) : comboFull s = true ↔ s.comboCnt = 5 := by
  rw [comboFull, decide_eq_true_iff, Fin.ext_iff]
  rfl

/-- Where none of P1 to P4 matches outside `Init`, the count decides between P6 and NONE (R199, R200). -/
theorem firstRule_of_not_higher (sel alt : Bool) {s : State} (h : ¬higherRuleOrInit s) :
    firstRule sel alt s = if s.comboCnt = 5 then .p6 else .none := by
  simp only [not_or, not_and, ← leak_iff, ← emerg_iff, Bool.not_eq_true, Bool.not_eq_false] at h
  obtain ⟨hinit, hleak, hl, hmode1, hemergency⟩ := h
  rw [firstRule_eq sel alt s hinit, hl, if_neg Bool.false_ne_true]
  simp only [comboFull_iff]
  cases hp : s.page with
  | init => exact absurd hp hinit
  | leak => exact absurd hp hleak
  | mode1 => rw [hmode1 hp]
  | emergency => rw [hemergency hp]

/-- Where one of P1 to P4 matches outside `Init`, the first match is neither P6 nor NONE (R194 to R197, R201). -/
theorem firstRule_of_higher (sel alt : Bool) {s : State} (hinit : s.page ≠ .init) (h : higherRuleOrInit s) :
    firstRule sel alt s ≠ .p6 ∧ firstRule sel alt s ≠ .none := by
  rw [firstRule_eq sel alt s hinit]
  cases hl : leak s with
  | true => exact ⟨nofun, nofun⟩
  | false =>
    rw [if_neg Bool.false_ne_true]
    have hl' : ¬LeakSeen s := by rw [← guardP1_iff, guardP1, hl]; decide
    obtain hp | hp | hl'' | ⟨hp, he⟩ | ⟨hp, he⟩ := h
    · exact absurd hp hinit
    · rw [hp]; cases emerg s <;> exact ⟨nofun, nofun⟩
    · exact absurd hl'' hl'
    · rw [hp, (emerg_iff s).mpr he]; exact ⟨nofun, nofun⟩
    · rw [hp, Bool.eq_false_iff.mpr (mt (emerg_iff s).mp he)]; exact ⟨nofun, nofun⟩

theorem firstRule_eq_p6_iff (sel alt : Bool) {s : State} (hinit : s.page ≠ .init) :
    firstRule sel alt s = .p6 ↔ ¬higherRuleOrInit s ∧ s.comboCnt = 5 := by
  by_cases h : higherRuleOrInit s
  · exact iff_of_false (firstRule_of_higher sel alt hinit h).1 fun h' => h'.1 h
  · rw [firstRule_of_not_higher sel alt h]
    simp [h]

theorem firstRule_eq_none_iff (sel alt : Bool) {s : State} (hinit : s.page ≠ .init) :
    firstRule sel alt s = .none ↔ ¬higherRuleOrInit s ∧ s.comboCnt ≠ 5 := by
  by_cases h : higherRuleOrInit s
  · exact iff_of_false (firstRule_of_higher sel alt hinit h).2 fun h' => h'.1 h
  · rw [firstRule_of_not_higher sel alt h]
    simp [h]

/-- The policy this hardware has: exactly a wrong checksum is rejected (R175). -/
theorem rejects_params_iff (s : State) :
    rejects Config.params s = true ↔ Config.csum (s.flatch.bytes 0 37) ≠ s.flatch.read 37 := by
  rw [rejects_iff]
  exact and_iff_left rfl

/-- Settles O52: each clause denies the condition its case is selected by. -/
theorem unselectedCasesAreRefused : Obligations.UnselectedCasesAreRefused := by
  intro s b btn sel alt done
  refine ⟨fun h => refused_of_not_selected ?overflow, fun h => refused_of_not_selected ?store,
    fun h => refused_of_not_selected ?complete, fun h => refused_of_not_selected ?desync,
    fun h => refused_of_not_selected ?load, fun h => refused_of_not_selected ?send,
    fun h => refused_of_not_selected ?gap, fun h => refused_of_not_selected ?idle,
    fun h => ⟨refused_of_not_selected ?validate, refused_of_not_selected ?accept, refused_of_not_selected ?reject⟩,
    fun h => refused_of_not_selected ?acceptWrong, fun h => refused_of_not_selected ?rejectRight,
    fun h => refused_of_not_selected ?p0, fun h => refused_of_not_selected ?cnt,
    fun h => refused_of_not_selected ?p1, fun h => refused_of_not_selected ?p2,
    fun h => refused_of_not_selected ?p3, fun h => refused_of_not_selected ?p4,
    fun h => refused_of_not_selected ?p5, fun h => refused_of_not_selected ?p6,
    fun h => refused_of_not_selected ?none⟩
  case overflow => rw [overflowing_iff]; omega
  case store =>
    simp only [Bool.and_eq_true, Bool.not_eq_true', ← Bool.not_eq_true, overflowing_iff, atLastIndex_iff]
    omega
  case complete =>
    rw [Bool.and_eq_true, atLastIndex_iff, isMarker_iff]
    tauto
  case desync =>
    rw [Bool.and_eq_true, Bool.not_eq_true', ← Bool.not_eq_true, atLastIndex_iff, isMarker_iff]
    tauto
  case load => exact mt of_decide_eq_true fun h₀ => h (Fin.ext h₀)
  case send => exact mt of_decide_eq_true (Nat.not_lt.mpr h)
  case gap => exact mt of_decide_eq_true (Nat.not_le.mpr h)
  case idle => rw [h]; decide
  case validate => rw [h]; decide
  case accept => rw [h]; exact Bool.false_ne_true
  case reject => rw [h]; exact Bool.false_ne_true
  case acceptWrong => rw [(rejects_params_iff s).mpr h, Bool.not_true, Bool.and_false]; decide
  case rejectRight => rw [Bool.and_eq_true, rejects_params_iff]; exact fun h' => h'.2 h
  case p0 => exact mt of_decide_eq_true h
  case cnt => rw [evaluating_iff]; exact not_not.mpr h
  case p1 => rw [Bool.and_eq_true, evaluating_iff, guardP1_iff]; tauto
  case p2 => rw [Bool.and_eq_true, guardP2_iff]; tauto
  case p3 => rw [Bool.and_eq_true, evaluating_iff, guardP3_iff]; tauto
  case p4 => rw [Bool.and_eq_true, guardP4_iff]; tauto
  case p5 =>
    rw [← Bool.not_eq_true sel] at h
    rw [Bool.and_eq_true, evaluating_iff, guardP5_iff]
    tauto
  case p6 =>
    rw [Bool.and_eq_true, evaluating_iff, decide_eq_true_iff]
    rintro ⟨hinit, hr⟩
    obtain ⟨hhigher, hcnt⟩ := (firstRule_eq_p6_iff sel alt hinit).mp hr
    exact h.elim hhigher fun h' => h' hcnt
  case none =>
    rw [Bool.and_eq_true, evaluating_iff, decide_eq_true_iff]
    rintro ⟨hinit, hr⟩
    obtain ⟨hhigher, hcnt⟩ := (firstRule_eq_none_iff sel alt hinit).mp hr
    exact h.elim hhigher hcnt

end Sys2Proof.Machine
end

section
/-!
PROOFS. The frame codec (40_frame_codec.md): a field read is its bytes with the lowest one last (R66, R93), the fields are the
first 37 bytes read another way (R122, R124), and CSUM, ENCODE and DECODE only return their result (R120 to R123).
-/

namespace Sys2Proof

/-! ### Reading and writing a field (R10, R66) -/

/-- The byte at the offset is the lowest of the field. -/
theorem memRead_succ (F : List Byte) (off n : Nat) :
    memRead F off (n + 1) = memRead F (off + 1) n ++ byteAt F off := by
  apply BitVec.eq_of_toNat_eq
  have hbyte := (byteAt F off).isLt
  have hcons : leNat ((F.drop off).take (n + 1)) = (byteAt F off).toNat + 256 * leNat ((F.drop (off + 1)).take n) := by
    by_cases h : off < F.length
    · rw [List.drop_eq_getElem_cons h, List.take_succ_cons, leNat, byteAt, List.getD_eq_getElem _ _ h]
    · rw [byteAt, List.getD_eq_default _ _ (by omega), List.drop_of_length_le (by omega), List.drop_of_length_le (by omega)]
      simp [leNat]
  have hlow (x : Nat) : ((byteAt F off).toNat + 256 * x) % 2 ^ 8 = (byteAt F off).toNat := by omega
  have hhigh (x : Nat) : ((byteAt F off).toNat + 256 * x) / 2 ^ 8 = x := by omega
  rw [BitVec.toNat_append, ← Nat.shiftLeft_add_eq_or_of_lt hbyte, Nat.shiftLeft_eq, memRead, memRead, BitVec.toNat_ofNat,
    BitVec.toNat_ofNat, hcons, Nat.mul_succ, Nat.add_comm (8 * n), Nat.pow_add, Nat.mod_mul, hlow, hhigh]
  omega

theorem memRead_one (F : List Byte) (off : Nat) : memRead F off 1 = byteAt F off :=
  (memRead_succ F off 0).trans (BitVec.zero_width_append _ _)

theorem memRead_two (F : List Byte) (off : Nat) : memRead F off 2 = byteAt F (off + 1) ++ byteAt F off := by
  rw [memRead_succ, memRead_one]

theorem memRead_four (F : List Byte) (off : Nat) :
    memRead F off 4 = byteAt F (off + 3) ++ byteAt F (off + 2) ++ byteAt F (off + 1) ++ byteAt F off := by
  rw [memRead_succ, memRead_succ, memRead_two]

theorem leNat_lt (bs : List Byte) : leNat bs < 2 ^ (8 * bs.length) := by
  induction bs with
  | nil => decide
  | cons b bs ih =>
    have hb := b.isLt
    rw [leNat, List.length_cons, Nat.mul_succ, Nat.pow_add]
    omega

/-- `MemWrite` inverts `MemRead` (R10, R124). -/
theorem leBytes_leNat (bs : List Byte) : leBytes bs.length (leNat bs) = bs := by
  induction bs with
  | nil => rfl
  | cons b bs ih =>
    have hb := b.isLt
    have hlow : BitVec.ofNat 8 (b.toNat + 256 * leNat bs) = b := by
      apply BitVec.eq_of_toNat_eq
      rw [BitVec.toNat_ofNat]
      omega
    have hhigh : (b.toNat + 256 * leNat bs) / 256 = leNat bs := by omega
    rw [List.length_cons, leNat, leBytes, hlow, hhigh, ih]

/-- Writing a field that was read gives back the bytes it was read from. -/
theorem leBytes_memRead {F : List Byte} {off n : Nat} (h : off + n ≤ F.length) :
    leBytes n (memRead F off n).toNat = (F.drop off).take n := by
  have hlen : ((F.drop off).take n).length = n := by
    rw [List.length_take, List.length_drop]
    omega
  have hlt := leNat_lt ((F.drop off).take n)
  have hbytes := leBytes_leNat ((F.drop off).take n)
  rw [hlen] at hlt hbytes
  rw [memRead, BitVec.toNat_ofNat, Nat.mod_eq_of_lt hlt, hbytes]

/-- A field within the first `k` bytes is read from them. -/
theorem memRead_take {F : List Byte} {off n k : Nat} (h : off + n ≤ k) : memRead (F.take k) off n = memRead F off n := by
  rw [memRead, memRead, List.drop_take, List.take_take, Nat.min_eq_left (by omega)]

/-! ### The sixteen fields (R92, R122, R124) -/

theorem telemOfBytes_eq_fieldsOf (F : List Byte) : telemOfBytes F = Claims.fieldsOf F := by
  simp only [telemOfBytes, Claims.fieldsOf, memRead_one, memRead_two, memRead_four]

theorem telemOfBytes_take (F : List Byte) : telemOfBytes (F.take 37) = telemOfBytes F := by
  simp only [telemOfBytes, Telem.mk.injEq]
  and_intros <;> exact memRead_take (by decide)

/-- The fields lie side by side, so the sender's payload of the fields read is the bytes they were read from. -/
theorem telemPayload_telemOfBytes {F : List Byte} (h : 37 ≤ F.length) : telemPayload (telemOfBytes F) = F.take 37 := by
  have hfield (off n : Nat) (hk : off + n ≤ 37) : leBytes n (memRead F off n).toNat = (F.drop off).take n :=
    leBytes_memRead (hk.trans h)
  simp only [telemPayload, telemOfBytes, hfield, Nat.reduceAdd, Nat.reduceLeDiff, List.drop_zero, ← List.take_add]

/-- The fields and the first 37 bytes are the same information (R124). -/
theorem telemOfBytes_eq_iff {F G : List Byte} (hF : 37 ≤ F.length) (hG : 37 ≤ G.length) :
    telemOfBytes F = telemOfBytes G ↔ F.take 37 = G.take 37 := by
  constructor
  · intro h
    rw [← telemPayload_telemOfBytes hF, h, telemPayload_telemOfBytes hG]
  · intro h
    rw [← telemOfBytes_take F, h, telemOfBytes_take]

end Sys2Proof

namespace Sys2Proof.Machine

open Claims

/-! ### DECODE (R122 to R124) -/

/-- On 39 bytes, whatever they are, DECODE returns the fields. -/
theorem exec_decode {F : List Byte} (h : F.length = 39) (s : State) :
    exec (.decode F) s = .next (returnResult (.fields (telemOfBytes F)) s) := by
  change execDecode F s = _
  rw [execDecode, decodeFrame, if_pos h]

/-- Settles O3: the fields DECODE returns are those of the offsets written out. -/
theorem decodeReadsSixteenFields : Obligations.DecodeReadsSixteenFields := by
  intro F s h
  rw [exec_decode h, telemOfBytes_eq_fieldsOf]
  rfl

/-- Settles O4: the length is tested before anything is read. -/
theorem decodeRefusesOtherLengths : Obligations.DecodeRefusesOtherLengths := by
  intro F s h
  change execDecode F s = _
  rw [execDecode, decodeFrame, if_neg h]

/-- Settles O5: the sender's frame is read back field by field, and the fields are the first 37 bytes. -/
theorem decodeInvertsTheSender : Obligations.DecodeInvertsTheSender := by
  refine ⟨fun t s => ?_, fun F G hF hG => telemOfBytes_eq_iff (by omega) (by omega)⟩
  have h := exec_decode (length_telemBytes t (Config.csum (telemPayload t))) s
  rw [telemOfBytes_telemBytes] at h
  exact h

/-! ### ENCODE and CSUM (R120, R121) -/

theorem encodeFrame_params (btn : Buttons) : encodeFrame Config.params btn = controlFrame btn := by
  rw [controlFrame, flagsAndMarker_eq_ctrlBody]
  rfl

/-- Settles O2: the machine's encoder gives the frame as the rules write it out. -/
theorem encodeLaysOutTheControlFrame : Obligations.EncodeLaysOutTheControlFrame := by
  intro btn s
  rw [← encodeFrame_params]
  rfl

/-- Settles O1: CSUM is the parameter applied to its operand. -/
theorem csumReturnsTheParameter : Obligations.CsumReturnsTheParameter := fun _ _ => rfl

end Sys2Proof.Machine
end

section
/-!
PROOFS. LinkAssembler (41_link_assembler.md): the cases of RXBYTE as events and as rows (R141 to R144), the outcome records of
a window (R146 to R148), and streams of bytes and of frames (R149, R150).
-/

namespace Sys2Proof.Machine

open Claims

/-! ### A row of RXBYTE where its condition selects it (R98, R140) -/

/-- Inside the buffer the overflow guard does nothing. -/
theorem rxbyteEvent_of_lt (b : Byte) {s : State} (h : s.cur.toNat < 39) : rxbyteEvent b s = rxCase b (clearOut s) := by
  rw [rxbyteEvent, if_neg]
  rw [overflowing_iff]
  omega

theorem exec_rxbyteOverflow (b : Byte) {s : State} (h : 39 ≤ s.cur.toNat) :
    exec (.rxbyteOverflow b) s = exec (.rxbyte b) s := by
  have ho := (overflowing_iff s).mpr h
  change whenSelected _ (overflowing s) _ = ending (rxbyteEvent b s)
  rw [rxbyteEvent, ho, if_pos rfl, whenSelected_true]

theorem exec_rxbyteStore (b : Byte) {s : State} (h : s.cur.toNat < 38) :
    exec (.rxbyteStore b) s = exec (.rxbyte b) s := by
  have ho : overflowing s = false := by rw [← Bool.not_eq_true, overflowing_iff]; omega
  have hl : atLastIndex s = false := by rw [← Bool.not_eq_true, atLastIndex_iff]; omega
  change whenSelected _ (!overflowing s && !atLastIndex s) _ = ending (rxbyteEvent b s)
  rw [rxbyteEvent_of_lt b (by omega), ho, hl, rxCase, if_pos (by rw [Bool.not_eq_true']; exact hl)]
  rfl

/-- At the last index the event is the case that the marker test selects. -/
theorem rxbyteEvent_of_last (b : Byte) {s : State} (h : s.cur.toNat = 38) :
    rxbyteEvent b s = storeThen b (if isMarker b then completeEffect else desyncEffect) (clearOut s) := by
  have hl : atLastIndex (clearOut s) = true := (atLastIndex_iff _).mpr h
  rw [rxbyteEvent_of_lt b (by omega), rxCase, hl]
  cases isMarker b <;> rfl

theorem exec_rxbyteComplete {s : State} (h : s.cur.toNat = 38) :
    exec (.rxbyteComplete 0x17) s = exec (.rxbyte 0x17) s := by
  change whenSelected _ (atLastIndex s && isMarker 0x17) _ = ending (rxbyteEvent 0x17 s)
  rw [rxbyteEvent_of_last _ h, (atLastIndex_iff s).mpr h]
  rfl

theorem exec_rxbyteDesync {b : Byte} {s : State} (h : s.cur.toNat = 38) (hb : b ≠ 0x17) :
    exec (.rxbyteDesync b) s = exec (.rxbyte b) s := by
  have hm : isMarker b = false := by rw [← Bool.not_eq_true, isMarker_iff]; exact hb
  change whenSelected _ (atLastIndex s && !isMarker b) _ = ending (rxbyteEvent b s)
  rw [rxbyteEvent_of_last b h, (atLastIndex_iff s).mpr h, hm]
  rfl

/-! ### The four cases (R141 to R144) -/

/-- Settles O13: the event by `rxbyteEvent_overflow`, the row because its condition selects it. -/
theorem overflowGuardRestartsTheWindow : Obligations.OverflowGuardRestartsTheWindow := by
  intro s b h
  have hx := exec_rxbyte_of_ok (rxbyteEvent_overflow b s h)
  exact ⟨_, hx, (exec_rxbyteOverflow b h).trans hx, rfl, fun i => read_write Memory.zeros 0 b i⟩

/-- Settles O14: the event by `rxbyteEvent_store`, the row because its condition selects it. -/
theorem storeKeepsCollecting : Obligations.StoreKeepsCollecting := by
  intro s b h
  have hx := exec_rxbyte_of_ok (rxbyteEvent_store b s h)
  exact ⟨_, hx, (exec_rxbyteStore b h).trans hx, rfl, toNat_cur_add_one h, read_write s.abuf s.cur.toNat b⟩

/-- A buffer that took the first `n` bytes of another holds these and nothing else. -/
theorem read_ofBytes_bytes (m : Memory) (n i : Nat) :
    (Memory.ofBytes (m.bytes 0 n)).read i = if i < n then m.read i else 0x00 := by
  rw [read_ofBytes]
  split
  · next h => rw [getD_bytes _ _ _ _ h, Nat.zero_add]
  · next h => exact List.getD_eq_default _ _ (by rw [length_bytes]; omega)

/-- Settles O15: the event by `rxbyteEvent_complete`; the latch takes the 38 bytes collected and the marker behind them. -/
theorem markerCompletesTheFrame : Obligations.MarkerCompletesTheFrame := by
  intro s h
  have hx := exec_rxbyte_of_ok (rxbyteEvent_complete s h)
  refine ⟨_, hx, (exec_rxbyteComplete h).trans hx, rfl, fun i => ?_⟩
  rw [read_ofBytes_bytes, read_write]
  rcases Nat.lt_trichotomy i 38 with hi | rfl | hi
  · rw [if_pos (by omega), if_neg (by omega), if_pos hi]
  · rfl
  · rw [if_neg (by omega), if_neg (by omega), if_neg (by omega)]

/-- Settles O16: the event by `rxbyteEvent_desync`, the row because its condition selects it. -/
theorem otherByteDiscardsTheWindow : Obligations.OtherByteDiscardsTheWindow := fun s b h hb =>
  ⟨exec_rxbyte_of_ok (rxbyteEvent_desync b s h hb), exec_rxbyteDesync h hb⟩

/-! ### Collecting (R146) -/

/-- Settles O17: up to 38 bytes from `Collecting(0)` are all stores, and what they leave is `afterStores`. -/
theorem collectingAnyBytes : Obligations.CollectingAnyBytes := by
  intro s bs hc hb
  have h₀ : s.cur.toNat = 0 := by rw [hc]; rfl
  have h : s.cur.toNat + bs.length ≤ 38 := by omega
  refine ⟨afterStores bs s, ?_, rfl, ?_, fun hne => ?_, fun i hi => ?_⟩
  · rw [run_rxOps, rxSeq_eq_afterStores bs s h, ending_ok]
  · rw [toNat_cur_afterStores bs s h, h₀, Nat.zero_add]
  · rw [afterStores, if_neg hne]
    rfl
  · change (s.abuf.writeBytes s.cur.toNat bs).read i = _
    rw [h₀, read_writeBytes, if_pos (by omega), Nat.sub_zero, byteAt]

/-! ### The outcome records of a window (R147, R148) -/

theorem outcomes_cons_next {i : Instr} {s t : State} (is : List Instr) (h : exec i s = .next t) :
    outcomes (i :: is) s = t.out :: outcomes is t := by
  simp only [outcomes, h]

/-- Bytes that end before index 38 each leave the record of a store. -/
theorem outcomes_stores (bs : List Byte) (s : State) (h : s.cur.toNat + bs.length ≤ 38) :
    outcomes (rxOps bs) s = List.replicate bs.length storedRecord := by
  induction bs generalizing s with
  | nil => rfl
  | cons b bs ih =>
    rw [List.length_cons] at h
    have hc : (s.cur + 1).toNat = s.cur.toNat + 1 := toNat_cur_add_one (by omega)
    rw [rxOps, List.map_cons, outcomes_cons_next _ (exec_rxbyte_of_ok (rxbyteEvent_store b s (by omega))),
      List.length_cons, List.replicate_succ]
    exact congrArg _ (ih _ (by rw [hc]; omega))

theorem rxOps_append (bs cs : List Byte) : rxOps (bs ++ cs) = rxOps bs ++ rxOps cs := List.map_append

theorem rxSeq_stores_concat (bs : List Byte) (b : Byte) (s : State) (h : s.cur.toNat + bs.length ≤ 38) :
    rxSeq (bs ++ [b]) s = rxbyteEvent b (afterStores bs s) := by
  rw [rxSeq_append _ (rxSeq_eq_afterStores bs s h), rxSeq_singleton]

/-- Up to 38 stores and one more byte: `Stored` for each but the last, whose outcome the run ends with. -/
theorem rxOutcomes_stores_concat {bs : List Byte} {b : Byte} {s t : State} (h : s.cur.toNat + bs.length ≤ 38)
    (ht : rxSeq (bs ++ [b]) s = .ok t) :
    (outcomes (rxOps (bs ++ [b])) s).map Outputs.rxOutcome =
      List.replicate bs.length (some .stored) ++ [t.out.rxOutcome] := by
  have hbs : run (rxOps bs) s = .next (afterStores bs s) := by
    rw [run_rxOps, rxSeq_eq_afterStores bs s h, ending_ok]
  rw [rxSeq_stores_concat bs b s h] at ht
  have hlast : outcomes (rxOps [b]) (afterStores bs s) = [t.out] := outcomes_cons_next [] (exec_rxbyte_of_ok ht)
  rw [rxOps_append, outcomes_append _ hbs, outcomes_stores bs s h, hlast, List.map_append, List.map_replicate]
  rfl

/-- The completions of a run are counted in its `rx_outcome`s alone. -/
theorem completions_eq_count (is : List Instr) (s : State) :
    completions is s = ((outcomes is s).map Outputs.rxOutcome).count (some .complete) := by
  rw [completions, List.count, List.countP_map]
  exact List.countP_congr fun o _ => by simp

/-- Stores complete nothing: only the last byte of a window can. -/
theorem completions_stores_concat {bs : List Byte} {b : Byte} {s t : State} (h : s.cur.toNat + bs.length ≤ 38)
    (ht : rxSeq (bs ++ [b]) s = .ok t) :
    completions (rxOps (bs ++ [b])) s = if t.out.rxOutcome = some .complete then 1 else 0 := by
  rw [completions_eq_count, rxOutcomes_stores_concat h ht, List.count_append, List.count_replicate,
    List.count_singleton]
  simp

/-- Bytes up to index 38 and one there that is not the marker are discarded with what was collected, and nothing else of the
block changes (R144). -/
theorem rxSeq_discarded (bs : List Byte) {b : Byte} (s : State) (h : s.cur.toNat + bs.length = 38) (hb : b ≠ 0x17) :
    rxSeq (bs ++ [b]) s = .ok { s with
      abuf := [], cur := 0,
      out := { Outputs.idle with rxOutcome := some .desync, raised := [.frameDesync] } } := by
  have hlast : (afterStores bs s).cur.toNat = 38 := by rw [toNat_cur_afterStores _ _ h.le]; exact h
  rw [rxSeq_stores_concat bs b s h.le, rxbyteEvent_desync b _ hlast hb]
  rfl

/-- Settles O18: `rxSeq_aligned` with the marker and `rxSeq_discarded` without it, each with its outcome records. -/
theorem fullWindowCompletesByItsMarkerAlone : Obligations.FullWindowCompletesByItsMarkerAlone := by
  intro s bs hc hb
  have h : s.cur.toNat + bs.length = 38 := by rw [hc, hb]; rfl
  refine ⟨?_, fun b hne => ?_⟩
  · have ht := rxSeq_aligned bs s hc hb
    have hlatch := bytes_ofBytes (bs ++ [0x17])
    have hrec := rxOutcomes_stores_concat h.le ht
    rw [List.length_append, hb] at hlatch
    rw [hb] at hrec
    exact ⟨_, (run_rxOps _ s).trans (congrArg ending ht), rfl, rfl, hlatch, rfl, completions_stores_concat h.le ht, hrec⟩
  · have ht := rxSeq_discarded bs s h hne
    have hrec := rxOutcomes_stores_concat h.le ht
    rw [hb] at hrec
    exact ⟨_, (run_rxOps _ s).trans (congrArg ending ht), rfl, rfl, rfl, rfl, completions_stores_concat h.le ht, hrec⟩

/-! ### Windows in a stream of bytes (R149, R150) -/

/-- From a cursor in range a byte moves the cursor one on modulo 39, and the outcome names the end of a window. -/
theorem rxbyteEvent_window (b : Byte) (s : State) (hc : s.cur.toNat ≤ 38) :
    ∃ t, rxbyteEvent b s = .ok t ∧ t.cur.toNat = (s.cur.toNat + 1) % 39 ∧ t.out.rxOverflow = false ∧
      t.out.rxOutcome = some (if t.cur = 0 then (if b = 0x17 then .complete else .desync) else .stored) := by
  rcases Nat.lt_or_eq_of_le hc with h | h
  · have hcur := toNat_cur_add_one h
    have hne : s.cur + 1 ≠ 0 := fun h₀ => by
      rw [h₀] at hcur
      exact absurd hcur (Nat.succ_ne_zero _).symm
    refine ⟨_, rxbyteEvent_store b s h, ?_, rfl, ?_⟩
    · rw [hcur, Nat.mod_eq_of_lt (by omega)]
    · rw [if_neg hne]
  · have hmod : (0 : BitVec Config.CURW).toNat = (s.cur.toNat + 1) % 39 := by rw [h]; rfl
    by_cases hb : b = 0x17
    · subst hb
      exact ⟨_, rxbyteEvent_complete s h, hmod, rfl, rfl⟩
    · refine ⟨_, rxbyteEvent_desync b s h hb, hmod, rfl, ?_⟩
      rw [if_pos rfl, if_neg hb]

/-- From a cursor in range, any bytes move the cursor by their number modulo 39. -/
theorem rxSeq_cur (bs : List Byte) (s : State) (hc : s.cur.toNat ≤ 38) :
    ∃ t, rxSeq bs s = .ok t ∧ t.cur.toNat = (s.cur.toNat + bs.length) % 39 := by
  induction bs generalizing s with
  | nil => exact ⟨s, rfl, (Nat.mod_eq_of_lt (Nat.lt_succ_of_le hc)).symm⟩
  | cons b bs ih =>
    obtain ⟨u, hu, huc, -⟩ := rxbyteEvent_window b s hc
    obtain ⟨t, ht, htc⟩ := ih u (by omega)
    refine ⟨t, by rw [rxSeq, hu]; exact ht, ?_⟩
    rw [List.length_cons]
    omega

/-- Settles O20: the bytes before the last bring the cursor where their number says (`rxSeq_cur`), and the last one moves it
once more with its outcome (`rxbyteEvent_window`). -/
theorem windowsAreCutByCountAlone : Obligations.WindowsAreCutByCountAlone := by
  intro s bs b hc
  obtain ⟨u, hu, huc⟩ := rxSeq_cur bs s hc
  obtain ⟨t, ht, htc, hout⟩ := rxbyteEvent_window b u (by omega)
  refine ⟨t, ?_, by omega, hout⟩
  rw [run_rxOps, rxSeq_append _ hu, rxSeq_singleton, ht, ending_ok]

/-! ### A stream of intact frames (R150) -/

theorem completions_append {is : List Instr} {s t : State} (js : List Instr) (h : run is s = .next t) :
    completions (is ++ js) s = completions is s + completions js t := by
  rw [completions, outcomes_append js h, List.countP_append]
  rfl

/-- A frame with the marker in its place is 38 bytes and the marker. -/
theorem take_append_marker {F : List Byte} (hlen : F.length = 39) (hm : byteAt F 38 = 0x17) : F.take 38 ++ [0x17] = F := by
  rw [byteAt, List.getD_eq_getElem _ _ (by omega)] at hm
  rw [← hm, List.take_append_getElem, List.take_of_length_le hlen.le]

/-- An intact frame at an aligned assembler: it is completed, latched, and the assembler stands aligned again. -/
theorem run_intact_frame {F : List Byte} {s : State} (hc : s.cur = 0) (hlen : F.length = 39) (hm : byteAt F 38 = 0x17) :
    ∃ t, run (rxOps F) s = .next t ∧ t.cur = 0 ∧ completions (rxOps F) s = 1 ∧ t.frdy = true ∧
      t.flatch.bytes 0 39 = F := by
  have hwindow := fullWindowCompletesByItsMarkerAlone s (F.take 38) hc (by rw [List.length_take]; omega)
  rw [take_append_marker hlen hm] at hwindow
  obtain ⟨⟨t, ht, htc, hfrdy, hlatch, -, hone, -⟩, -⟩ := hwindow
  exact ⟨t, ht, htc, hone, hfrdy, hlatch⟩

/-- Settles O21, by induction on the frames from the last one: those before it leave the assembler aligned, and it is an
intact frame at an aligned assembler. -/
theorem alignedFramesAllComplete : Obligations.AlignedFramesAllComplete := by
  intro s frames hc hF
  induction frames using List.reverseRecOn with
  | nil => exact ⟨s, rfl, hc, rfl, nofun⟩
  | append_singleton frames F ih =>
    obtain ⟨u, hu, huc, hcount, -⟩ := ih fun G hG => hF G (List.mem_append_left _ hG)
    obtain ⟨hlen, hm⟩ := hF F (List.mem_append_right _ (List.mem_singleton_self F))
    obtain ⟨t, ht, htc, hone, hlatched⟩ := run_intact_frame huc hlen hm
    rw [List.flatten_concat, rxOps_append]
    refine ⟨t, (run_append _ hu).trans ht, htc, ?_, fun G hG => ?_⟩
    · rw [completions_append _ hu, hcount, hone, List.length_append, List.length_singleton]
    · rw [List.getLast?_concat] at hG
      cases hG
      exact hlatched

end Sys2Proof.Machine
end

section
/-!
PROOFS. LinkScheduler (42_link_scheduler.md): TICK as its three micro-operations (R160), the frame that TXSTEP sends in one
period of 22 (R161 to R165), RXPOLL under either policy (R170 to R175), and where TELEM comes from (R176).
-/

namespace Sys2Proof.Machine

open Claims

/-- What is shown of the state a computation ends in holds of the state it is known to have ended in. -/
theorem of_eq_ok {x : Except Fault State} {P : State → Prop} {t : State} (h : ∃ u, x = .ok u ∧ P u) (ht : x = .ok t) :
    P t := by
  obtain ⟨u, hu, hP⟩ := h
  cases hu.symm.trans ht
  exact hP

/-! ### RXPOLL, case by case (R170 to R174) -/

theorem checksumBad_eq (p : Config.Params) (s : State) :
    checksumBad p s = decide (p.csum (s.flatch.bytes 0 37) ≠ s.flatch.read 37) := by
  rw [Bool.eq_iff_iff, decide_eq_true_iff]
  exact bne_iff_ne

/-- The classes VALIDATE records: a mismatch and nothing else (R172). -/
def checksumErrors (p : Config.Params) (s : State) : List ErrorClass :=
  if checksumBad p s then [.checksumMismatch] else []

/-- VALIDATE's own part (R172). -/
theorem recordChecksum_eq (p : Config.Params) (s : State) :
    recordChecksum p s = { s with
      csumBad := checksumBad p s, out := { s.out with raised := s.out.raised ++ checksumErrors p s } } := by
  unfold recordChecksum checksumErrors
  split
  · next h => rw [h]; rfl
  · next h => rw [Bool.eq_false_of_not_eq_true h, List.append_nil]

/-- A pending frame that is accepted (R172, R173). -/
theorem validateAccept_eq (p : Config.Params) (s : State) :
    validateAccept p s = { s with
      telem := telemOfBytes (latched s), linkHealth := .synced, csumBad := checksumBad p s, frdy := false,
      out := { s.out with rxPoll := .accepted, raised := s.out.raised ++ checksumErrors p s } } := by
  rw [validateAccept, recordChecksum_eq]
  rfl

/-- A pending frame that is rejected (R172, R174). -/
theorem validateReject_eq (p : Config.Params) (s : State) :
    validateReject p s = { s with
      linkHealth := .frameError, csumBad := checksumBad p s, frdy := false,
      out := { s.out with rxPoll := .rejected, raised := s.out.raised ++ checksumErrors p s } } := by
  rw [validateReject, recordChecksum_eq]
  rfl

theorem rxpoll_of_pending (p : Config.Params) {s : State} (h : s.frdy = true) :
    rxpoll p s = if rejects p s then validateReject p s else validateAccept p s := if_pos h

theorem rxpoll_of_not_pending (p : Config.Params) {s : State} (h : s.frdy = false) :
    rxpoll p s = { s with out := { s.out with rxPoll := .idle } } := if_neg (by rw [h]; decide)

/-- Settles O29: the case by the pending flag and `rejects`, with what each leaves. -/
theorem pollUnderEitherPolicy : Obligations.PollUnderEitherPolicy := by
  intro p s
  refine ⟨rfl, fun h => ?_, rxpoll_of_not_pending p⟩
  intro bad raised
  have hbad : checksumBad p s = bad := checksumBad_eq p s
  have hrej : rejects p s = true ↔ bad = true ∧ p.policy = .verifyReject := by
    rw [← hbad, rejects, Bool.and_eq_true, decide_eq_true_iff]
  rw [rxpoll_of_pending p h, validateReject_eq, validateAccept_eq, checksumErrors, hbad]
  exact if_congr hrej rfl rfl

/-- Settles O26: the poll takes its idle case, and the row's condition holds. -/
theorem pollWithoutFrameIsIdle : Obligations.PollWithoutFrameIsIdle := by
  intro s h
  refine ⟨congrArg Host.Outcome.next (rxpoll_of_not_pending Config.params h), ?_⟩
  change whenSelected _ (!s.frdy) _ = _
  have hsel : (!s.frdy) = true := by rw [h]; rfl
  rw [hsel]
  rfl

theorem exec_rxpoll (s : State) : exec .rxpoll s = .next (rxpoll Config.params s) := rfl

/-- Where a frame is pending, the row VALIDATE is the whole poll (R170, R172). -/
theorem exec_rxpollValidate {s : State} (h : s.frdy = true) : exec .rxpollValidate s = exec .rxpoll s := by
  change whenSelected _ s.frdy (.ok (validate Config.params s)) = .next (if s.frdy then _ else _)
  rw [h]
  rfl

/-- Where the poll accepts, it is the row ACCEPT (R173). -/
theorem exec_rxpollAccept {s : State} (h : s.frdy = true) (hrej : rejects Config.params s = false) :
    exec .rxpollAccept s = exec .rxpoll s := by
  change whenSelected _ (s.frdy && !rejects Config.params s) _ = _
  rw [exec_rxpoll, rxpoll_of_pending _ h, h, hrej]
  rfl

/-- Where the poll rejects, it is the row REJECT (R174). -/
theorem exec_rxpollReject {s : State} (h : s.frdy = true) (hrej : rejects Config.params s = true) :
    exec .rxpollReject s = exec .rxpoll s := by
  change whenSelected _ (s.frdy && rejects Config.params s) _ = _
  rw [exec_rxpoll, rxpoll_of_pending _ h, h, hrej]
  rfl

/-- Settles O27: a right checksum is not rejected, so the poll and the two rows are all `validateAccept`. -/
theorem rightChecksumIsAccepted : Obligations.RightChecksumIsAccepted := by
  intro s h hc
  have hbad : checksumBad Config.params s = false := (checksumBad_eq _ s).trans (decide_eq_false (not_not.mpr hc))
  have hrej : rejects Config.params s = false := by rw [rejects, hbad, Bool.false_and]
  have hrow := exec_rxpollAccept h hrej
  refine ⟨?_, (exec_rxpollValidate h).trans hrow.symm, hrow.symm⟩
  rw [hrow, exec_rxpoll, rxpoll_of_pending _ h, hrej, if_neg Bool.false_ne_true, validateAccept_eq, checksumErrors, hbad,
    if_neg Bool.false_ne_true, List.append_nil]
  rfl

/-- Settles O28: a wrong checksum is rejected under this hardware's policy, so the poll and the two rows are all
`validateReject`. -/
theorem wrongChecksumIsRejected : Obligations.WrongChecksumIsRejected := by
  intro s h hc
  have hbad : checksumBad Config.params s = true := (checksumBad_eq _ s).trans (decide_eq_true hc)
  have hrej : rejects Config.params s = true := (rejects_params_iff s).mpr hc
  have hrow := exec_rxpollReject h hrej
  refine ⟨?_, (exec_rxpollValidate h).trans hrow.symm, hrow.symm⟩
  rw [hrow, exec_rxpoll, rxpoll_of_pending _ h, hrej, if_pos rfl, validateReject_eq, checksumErrors, hbad, if_pos rfl]

/-- What the poll reports: the case it took (R50, R171 to R174). -/
theorem rxpoll_rxPoll (p : Config.Params) (s : State) :
    (rxpoll p s).out.rxPoll = if s.frdy then (if rejects p s then .rejected else .accepted) else .idle := by
  unfold rxpoll validate
  split
  · split <;> rfl
  · rfl

/-- The poll writes no outputs but its own and the classes raised. -/
theorem rxpoll_out (p : Config.Params) (s : State) :
    (rxpoll p s).out = { s.out with rxPoll := (rxpoll p s).out.rxPoll, raised := (rxpoll p s).out.raised } := by
  cases h : s.frdy with
  | false => rw [rxpoll_of_not_pending p h]
  | true =>
    rw [rxpoll_of_pending p h, validateReject_eq, validateAccept_eq]
    split <;> rfl

/-! ### TICK (R160) -/

theorem runBy_cons_next {ex : Instr → State → Host.Outcome State Fault Refusal} {i : Instr} {s t : State}
    (is : List Instr) (h : ex i s = .next t) : runBy ex (i :: is) s = runBy ex is t := by
  simp only [runBy, h]

/-- Under any parameters a TICK is the run of its three micro-operations on the state with idle outputs. -/
theorem execWith_tick_eq_runWith (p : Config.Params) (inputs : TickInputs) (s : State) :
    ∃ t, execWith p (.tick inputs) s = .next t ∧
      runWith p [.txstep inputs.btn, .rxpoll, .pageeval inputs.modeSel inputs.modeAlt inputs.initSeqDone] (clearOut s) =
        .next t := by
  obtain ⟨u, hu, ht⟩ := tickEvent_eq p inputs s
  have htxstep : execWith p (.txstep inputs.btn) (clearOut s) = .next u := congrArg ending hu
  have hrxpoll : execWith p .rxpoll u = .next (rxpoll p u) := rfl
  refine ⟨_, congrArg ending ht, ?_⟩
  rw [runWith, runBy_cons_next _ htxstep, runBy_cons_next _ hrxpoll]
  rfl

/-- A TICK always ends (R103). -/
theorem tickEvent_ok (p : Config.Params) (inputs : TickInputs) (s : State) : ∃ t, tickEvent p inputs s = .ok t := by
  obtain ⟨u, -, ht⟩ := tickEvent_eq p inputs s
  exact ⟨_, ht⟩

/-- Settles O49: for any parameters, of which the hardware's are one choice. -/
theorem tickRunsThreeMicroOperations : Obligations.TickRunsThreeMicroOperations := by
  intro s inputs
  have h := execWith_tick_eq_runWith Config.params inputs s
  rw [execWith_params, runWith_params] at h
  exact ⟨h, fun p => execWith_tick_eq_runWith p inputs s⟩

/-- What a TICK does on the receive side is the poll of the state before it; it consumes a pending frame, and no frame is
completed in it. -/
theorem tickEvent_polls {p : Config.Params} {inputs : TickInputs} {s t : State} (h : tickEvent p inputs s = .ok t) :
    t.frdy = false ∧ t.telem = (rxpoll p s).telem ∧ t.out.rxPoll = (rxpoll p s).out.rxPoll ∧
      t.out.rxOutcome = none := by
  obtain ⟨u, hu, hte⟩ := tickEvent_eq p inputs s
  cases hte.symm.trans h
  have hus := of_eq_ok (txstep_ok p inputs.btn (clearOut s)) hu
  have htelem : (rxpoll p u).telem = (rxpoll p s).telem := by rw [rxpoll_telem, rxpoll_telem, hus]; rfl
  have hpoll : (rxpoll p u).out.rxPoll = (rxpoll p s).out.rxPoll := by rw [rxpoll_rxPoll, rxpoll_rxPoll, hus]; rfl
  have hrx : (rxpoll p u).out.rxOutcome = none := by rw [rxpoll_out, hus]; rfl
  rw [pageeval_frame]
  exact ⟨by rw [rxpoll_frame], htelem, hpoll, hrx⟩

/-! ### TXSTEP, case by case (R161 to R164) -/

/-- At position 0 the row LOAD is the whole TXSTEP (R98, R162). -/
theorem exec_txstepLoad (btn : Buttons) {s : State} (h : s.txcur.val = 0) :
    exec (.txstepLoad btn) s = exec (.txstep btn) s := by
  change whenSelected _ (decide (s.txcur.val = 0)) _ = ending (txstep _ btn s)
  rw [decide_eq_true h, txstep_load _ btn s h, whenSelected_true]

theorem exec_txstepSend {s : State} (h : s.txcur.val < 11) : exec .txstepSend s = ending (sendByte s) := by
  change whenSelected _ (decide (s.txcur.val < 11)) _ = _
  rw [decide_eq_true h, whenSelected_true]

theorem exec_txstepGap {s : State} (h : 11 ≤ s.txcur.val) : exec .txstepGap s = .next (idleGap s) := by
  change whenSelected _ (decide (11 ≤ s.txcur.val)) _ = _
  rw [decide_eq_true h, whenSelected_true, ending_ok]

theorem nextTxcur_val (c : Fin Config.TX_PERIOD) : (nextTxcur c).val = (c.val + 1) % 22 := rfl

theorem bytes_ofBytes_controlFrame (btn : Buttons) : (Memory.ofBytes (controlFrame btn)).bytes 0 11 = controlFrame btn :=
  bytes_ofBytes (controlFrame btn)

/-- Settles O22: LOAD and SEND in one cycle, by the event and by the row. -/
theorem loadEncodesAndSendsByteZero : Obligations.LoadEncodesAndSendsByteZero := by
  intro s btn h
  have h₀ : s.txcur.val = 0 := by rw [h]; rfl
  have hlt : (loadTxbuf Config.params btn s).txcur.val < 11 := by rw [loadTxbuf_txcur]; omega
  have ht := (txstep_load Config.params btn s h₀).trans (sendByte_of_lt _ hlt)
  simp only [loadTxbuf_txcur, loadTxbuf_txbuf, loadTxbuf_out, encodeFrame_params, read_ofBytes, h] at ht
  have hx := exec_txstep_of_ok ht
  exact ⟨_, hx, (exec_txstepLoad btn h₀).trans hx, rfl, bytes_ofBytes_controlFrame btn⟩

/-- Settles O23: SEND by `sendByte_of_lt`; inside the schedule the event is the row. -/
theorem sendHandsOverOneByte : Obligations.SendHandsOverOneByte := by
  intro s btn h
  have hsend := sendByte_of_lt s h
  refine ⟨_, (exec_txstepSend h).trans (congrArg ending hsend), fun h₀ => ?_, rfl, ?_⟩
  · exact exec_txstep_of_ok ((txstep_send Config.params btn s (fun hv => h₀ (Fin.ext hv)) h).trans hsend)
  · rw [nextTxcur_val, Nat.mod_eq_of_lt (by omega)]

/-- Settles O24: after the frame, the event and the row are `idleGap`. -/
theorem gapHandsOverNothing : Obligations.GapHandsOverNothing := by
  intro s btn h
  refine ⟨_, exec_txstepGap h, exec_txstep_of_ok (txstep_gap Config.params btn s h), rfl, ?_⟩
  have hlt : s.txcur.val < 22 := s.txcur.isLt
  rw [idleGap, advanceTx_txcur, emitTx_txcur, nextTxcur_val]
  split <;> omega

/-! ### Operations of an interleaving (R8) -/

/-- An operation of an interleaving is a byte or a main cycle (R8). -/
theorem interleaved_cases {i : Instr} (h : (isRxbyte i || (tickInputs? i).isSome) = true) :
    (∃ b, i = .rxbyte b) ∨ ∃ inputs, i = .tick inputs := by
  cases i with
  | rxbyte b => exact .inl ⟨b, rfl⟩
  | tick inputs => exact .inr ⟨inputs, rfl⟩
  | _ => exact absurd h Bool.false_ne_true

/-- What an RXBYTE reports and latches: it neither polls nor sends, and either completes a frame, which ends in the marker
and is then pending, or leaves the latch and its flag alone (R141 to R144). -/
theorem rxbyteEvent_cases {b : Byte} {s t : State} (h : rxbyteEvent b s = .ok t) :
    t.out.rxPoll = .idle ∧ t.out.txValid = false ∧
      (t.out.rxOutcome = some .complete ∧ t.frdy = true ∧ t.flatch.read 38 = 0x17 ∨
        t.out.rxOutcome ≠ some .complete ∧ t.frdy = s.frdy ∧ t.flatch = s.flatch) := by
  rcases Nat.lt_trichotomy s.cur.toNat 38 with hc | hc | hc
  · cases (rxbyteEvent_store b s hc).symm.trans h
    exact ⟨rfl, rfl, .inr ⟨nofun, rfl, rfl⟩⟩
  · by_cases hb : b = 0x17
    · subst hb
      cases (rxbyteEvent_complete s hc).symm.trans h
      refine ⟨rfl, rfl, .inl ⟨rfl, rfl, ?_⟩⟩
      rw [read_ofBytes_bytes, if_pos (by omega), read_write, if_pos rfl]
    · cases (rxbyteEvent_desync b s hc hb).symm.trans h
      exact ⟨rfl, rfl, .inr ⟨nofun, rfl, rfl⟩⟩
  · cases (rxbyteEvent_overflow b s hc).symm.trans h
    exact ⟨rfl, rfl, .inr ⟨nofun, rfl, rfl⟩⟩

/-! ### One frame per period (R165) -/

/-- The byte an event hands to the transmit primitive, if any (R50, R64). -/
def handedOver (o : Outputs) : Option Byte := if o.txValid then some o.txData else none

theorem sentBytes_concat {is : List Instr} {i : Instr} {s t u : State} (h : run is s = .next t)
    (hi : exec i t = .next u) : sentBytes (is ++ [i]) s = sentBytes is s ++ (handedOver u.out).toList := by
  have hlast : sentBytes [i] t = (handedOver u.out).toList := by
    rw [sentBytes, outcomes_cons_next [] hi]
    change [u.out].filterMap handedOver = _
    cases ho : handedOver u.out with
    | none => exact List.filterMap_cons_none ho
    | some d => exact List.filterMap_cons_some ho
  rw [← hlast, sentBytes, outcomes_append [i] h, List.filterMap_append]
  rfl

theorem getElem?_bytes (m : Memory) (a n i : Nat) :
    (m.bytes a n)[i]? = if i < n then some (m.read (a + i)) else none := by
  split
  · next h =>
    have hlt : i < (m.bytes a n).length := by rwa [length_bytes]
    rw [← getD_bytes m a n i h, List.getD_eq_getElem _ _ hlt, List.getElem?_eq_getElem hlt]
  · next h => rw [List.getElem?_eq_none (by rw [length_bytes]; omega)]

theorem sendByte_handsOver {s u : State} (hlt : s.txcur.val < 11) (h : sendByte s = .ok u) :
    handedOver u.out = (u.txbuf.bytes 0 11)[s.txcur.val]? := by
  cases (sendByte_of_lt s hlt).symm.trans h
  rw [getElem?_bytes, if_pos hlt, Nat.zero_add]
  rfl

/-- TXSTEP hands over the byte at the position it found, of the frame it leaves in `TXBUF`, and nothing where the frame has
none (R162 to R164). -/
theorem txstep_handsOver {p : Config.Params} {btn : Buttons} {s u : State} (h : txstep p btn s = .ok u) :
    handedOver u.out = (u.txbuf.bytes 0 11)[s.txcur.val]? := by
  by_cases h₀ : s.txcur.val = 0
  · rw [txstep_load p btn s h₀] at h
    exact sendByte_handsOver (s := loadTxbuf p btn s) (by rw [loadTxbuf_txcur]; omega) h
  · by_cases h₁ : s.txcur.val < 11
    · rw [txstep_send p btn s h₀ h₁] at h
      exact sendByte_handsOver h₁ h
    · rw [txstep_gap p btn s (by omega)] at h
      cases h
      rw [getElem?_bytes, if_neg h₁]
      rfl

/-- What a TICK does on the transmit side is its TXSTEP. -/
theorem tickEvent_sends {p : Config.Params} {inputs : TickInputs} {s t : State} (h : tickEvent p inputs s = .ok t) :
    t.txcur = nextTxcur s.txcur ∧
      t.txbuf = (if s.txcur.val = 0 then Memory.ofBytes (encodeFrame p inputs.btn) else s.txbuf) ∧
      handedOver t.out = (t.txbuf.bytes 0 11)[s.txcur.val]? := by
  obtain ⟨u, hu, hte⟩ := tickEvent_eq p inputs s
  cases hte.symm.trans h
  have hus := of_eq_ok (txstep_ok p inputs.btn (clearOut s)) hu
  have hcur : u.txcur = nextTxcur s.txcur := by rw [hus]; rfl
  have hbuf := txbuf_of_txstep (s := clearOut s) hu
  have hsent := txstep_handsOver (s := clearOut s) hu
  rw [pageeval_frame, rxpoll_out, rxpoll_frame]
  exact ⟨hcur, hbuf, hsent⟩

/-- Where a transmission of the frame `F` stands after `n` TICKs: the position, the bytes handed over, which are the first
`n` of the frame as far as it has them, and the frame in `TXBUF` once it is loaded. -/
structure WithinPeriod (F : List Byte) (n : Nat) (sent : List Byte) (s : State) : Prop where
  position : s.txcur.val = n % 22
  sentPart : sent = F.take n
  loaded : n ≠ 0 → s.txbuf.bytes 0 11 = F

/-- A byte received does not disturb the transmission. -/
theorem withinPeriod_rxbyteEvent {F : List Byte} {n : Nat} {sent : List Byte} {b : Byte} {s t : State}
    (hs : WithinPeriod F n sent s) (h : rxbyteEvent b s = .ok t) :
    WithinPeriod F n (sent ++ (handedOver t.out).toList) t := by
  obtain ⟨-, hvalid, -⟩ := rxbyteEvent_cases h
  have hnone : handedOver t.out = none := by rw [handedOver, hvalid]; rfl
  rw [hnone, Option.toList_none, List.append_nil, of_eq_ok (rxbyteEvent_ok b s) h]
  exact { hs with }

/-- A TICK sends the next byte of the frame; the first one loads it from its own buttons. -/
theorem withinPeriod_tickEvent {F : List Byte} {n : Nat} {sent : List Byte} {inputs : TickInputs} {s t : State}
    (hs : WithinPeriod F n sent s) (hn : n < 22) (hfirst : n = 0 → controlFrame inputs.btn = F)
    (h : tickEvent Config.params inputs s = .ok t) :
    WithinPeriod F (n + 1) (sent ++ (handedOver t.out).toList) t := by
  obtain ⟨hcur, hbuf, hsent⟩ := tickEvent_sends h
  have hpos : s.txcur.val = n := by rw [hs.position, Nat.mod_eq_of_lt hn]
  rw [hpos] at hbuf hsent
  have hframe : t.txbuf.bytes 0 11 = F := by
    rw [hbuf]
    split
    · next h₀ => rw [encodeFrame_params, bytes_ofBytes_controlFrame, hfirst h₀]
    · next h₀ => exact hs.loaded h₀
  rw [hframe] at hsent
  exact ⟨by rw [hcur, nextTxcur_val, hpos], by rw [hsent, hs.sentPart, List.take_add_one], fun _ => hframe⟩

/-- A run of a period's first TICKs with bytes between them, by induction from its last operation. -/
theorem run_withinPeriod {s : State} {first : TickInputs} {others : List TickInputs} (h₀ : s.txcur = 0)
    (hothers : others.length = 21) {is : List Instr} (his : isInterleaving is = true)
    (hticks : is.filterMap tickInputs? <+: first :: others) :
    ∃ t, run is s = .next t ∧
      WithinPeriod (controlFrame first.btn) (is.filterMap tickInputs?).length (sentBytes is s) t := by
  induction is using List.reverseRecOn with
  | nil => exact ⟨s, rfl, by rw [h₀]; rfl, rfl, fun h => absurd rfl h⟩
  | append_singleton is i ih =>
    rw [isInterleaving, List.all_append, Bool.and_eq_true, List.all_cons, List.all_nil, Bool.and_true] at his
    obtain ⟨his, hi⟩ := his
    rw [List.filterMap_append] at hticks ⊢
    obtain ⟨t, ht, hwithin⟩ := ih his ((List.prefix_append _ _).trans hticks)
    rw [run_append _ ht, run_singleton]
    obtain ⟨b, rfl⟩ | ⟨inputs, rfl⟩ := interleaved_cases hi
    · obtain ⟨u, hu, -⟩ := rxbyteEvent_ok b t
      have hx := exec_rxbyte_of_ok hu
      have hnone : [Instr.rxbyte b].filterMap tickInputs? = [] := rfl
      rw [hnone, List.append_nil, sentBytes_concat ht hx]
      exact ⟨u, hx, withinPeriod_rxbyteEvent hwithin hu⟩
    · obtain ⟨u, hu⟩ := tickEvent_ok Config.params inputs t
      have hx := exec_tick_of_ok hu
      have hone : [Instr.tick inputs].filterMap tickInputs? = [inputs] := rfl
      rw [hone] at hticks ⊢
      have hlen := hticks.length_le
      rw [List.length_append, List.length_singleton, List.length_cons, hothers] at hlen
      rw [List.length_append, List.length_singleton, sentBytes_concat ht hx]
      refine ⟨u, hx, withinPeriod_tickEvent hwithin (by omega) (fun hzero => ?_) hu⟩
      rw [List.eq_nil_of_length_eq_zero hzero] at hticks
      rw [(List.cons_prefix_cons.mp hticks).1]

/-- Settles O25: `run_withinPeriod` at the period's end, where the eleven bytes are sent and the position is back at 0. -/
theorem oneFramePerTransmitPeriod : Obligations.OneFramePerTransmitPeriod := by
  intro s is first others h₀ his hticks hothers
  obtain ⟨t, ht, hwithin⟩ := run_withinPeriod h₀ hothers his (by rw [hticks])
  rw [hticks, List.length_cons, hothers] at hwithin
  exact ⟨hwithin.sentPart.trans (List.take_of_length_le (Nat.le_add_left 11 11)), t, ht, Fin.ext hwithin.position⟩

/-! ### A pending frame is consumed once (R176 (a), (b)) -/

/-- Bytes do not take back a pending frame. -/
theorem rxSeq_keeps_pending {bs : List Byte} {s t : State} (hs : s.frdy = true) (h : rxSeq bs s = .ok t) :
    t.frdy = true := by
  induction bs generalizing s with
  | nil => cases h; exact hs
  | cons b bs ih =>
    obtain ⟨u, hu, -⟩ := rxbyteEvent_ok b s
    rw [rxSeq, hu] at h
    obtain ⟨-, -, ⟨-, hfrdy, -⟩ | ⟨-, hfrdy, -⟩⟩ := rxbyteEvent_cases hu
    · exact ih hfrdy h
    · exact ih (hfrdy.trans hs) h

/-- Settles O30: the bytes keep the frame pending, the TICK reports the case its poll took and clears the flag, and the next
TICK finds it clear. -/
theorem pendingFrameIsConsumedOnce : Obligations.PendingFrameIsConsumedOnce := by
  intro s bs inputs inputs' hs
  obtain ⟨v, hv, -⟩ := rxSeq_ok bs s
  have hpending := rxSeq_keeps_pending hs hv
  obtain ⟨t, ht⟩ := tickEvent_ok Config.params inputs v
  obtain ⟨u, hu⟩ := tickEvent_ok Config.params inputs' t
  obtain ⟨htfrdy, -, htpoll, -⟩ := tickEvent_polls ht
  obtain ⟨-, -, hupoll, -⟩ := tickEvent_polls hu
  rw [rxpoll_rxPoll, hpending, if_pos rfl] at htpoll
  rw [rxpoll_rxPoll, htfrdy, if_neg Bool.false_ne_true] at hupoll
  have hbytes : run (rxOps bs) s = .next v := (run_rxOps bs s).trans (congrArg ending hv)
  refine ⟨t, u, ?_, htfrdy, ?_, exec_tick_of_ok hu, hupoll⟩
  · rw [run_append _ hbytes, run_singleton, exec_tick_of_ok ht]
  · rw [htpoll]
    split
    · exact .inr rfl
    · exact .inl rfl

/-- The frames consumed by an event, with the one pending after it, are at most the one it completed and the one pending
before it. -/
theorem consumed_le_completed {i : Instr} (s : State) (hi : (isRxbyte i || (tickInputs? i).isSome) = true) :
    ∃ t, exec i s = .next t ∧
      (if t.out.rxPoll ≠ .idle then 1 else 0) + t.frdy.toNat ≤
        (if t.out.rxOutcome = some .complete then 1 else 0) + s.frdy.toNat := by
  obtain ⟨b, rfl⟩ | ⟨inputs, rfl⟩ := interleaved_cases hi
  · obtain ⟨t, ht, -⟩ := rxbyteEvent_ok b s
    refine ⟨t, exec_rxbyte_of_ok ht, ?_⟩
    obtain ⟨hpoll, -, ⟨hout, hfrdy, -⟩ | ⟨hout, hfrdy, -⟩⟩ := rxbyteEvent_cases ht
    · rw [if_neg (not_not.mpr hpoll), if_pos hout, hfrdy, Bool.toNat_true]
      omega
    · rw [if_neg (not_not.mpr hpoll), if_neg hout, hfrdy]
  · obtain ⟨t, ht⟩ := tickEvent_ok Config.params inputs s
    refine ⟨t, exec_tick_of_ok ht, ?_⟩
    obtain ⟨hfrdy, -, hpoll, hout⟩ := tickEvent_polls ht
    rw [hfrdy, hpoll, hout, rxpoll_rxPoll]
    cases s.frdy with
    | false => exact le_rfl
    | true => cases rejects Config.params s <;> decide

theorem consumptions_cons {i : Instr} {s t : State} (is : List Instr) (h : exec i s = .next t) :
    consumptions (i :: is) s = consumptions is t + if t.out.rxPoll ≠ .idle then 1 else 0 := by
  rw [consumptions, outcomes_cons_next is h, List.countP_cons]
  simp only [decide_eq_true_iff]
  rfl

theorem completions_cons {i : Instr} {s t : State} (is : List Instr) (h : exec i s = .next t) :
    completions (i :: is) s = completions is t + if t.out.rxOutcome = some .complete then 1 else 0 := by
  rw [completions, outcomes_cons_next is h, List.countP_cons]
  simp only [decide_eq_true_iff]
  rfl

/-- Over any interleaving the frames consumed are at most those completed and the one pending at the start. -/
theorem consumptions_le {is : List Instr} (s : State) (his : isInterleaving is = true) :
    consumptions is s ≤ completions is s + s.frdy.toNat := by
  induction is generalizing s with
  | nil => exact Nat.zero_le _
  | cons i is ih =>
    rw [isInterleaving, List.all_cons, Bool.and_eq_true] at his
    obtain ⟨t, ht, hle⟩ := consumed_le_completed s his.1
    have hrest := ih t his.2
    rw [consumptions_cons is ht, completions_cons is ht]
    omega

/-- Settles O31: `consumptions_le` with no frame pending at the start. -/
theorem noMoreFramesConsumedThanCompleted : Obligations.NoMoreFramesConsumedThanCompleted := by
  intro s is his hs
  have h := consumptions_le s his
  rwa [hs] at h

/-! ### Where TELEM comes from (R176 (c), (d)) -/

theorem rxSeq_telem {bs : List Byte} {s t : State} (h : rxSeq bs s = .ok t) : t.telem = s.telem := by
  rw [of_eq_ok (rxSeq_ok bs s) h]

theorem rxbyteEvent_telem {b : Byte} {s t : State} (h : rxbyteEvent b s = .ok t) : t.telem = s.telem := by
  rw [of_eq_ok (rxbyteEvent_ok b s) h]

theorem txstep_telem {p : Config.Params} {btn : Buttons} {s t : State} (h : txstep p btn s = .ok t) :
    t.telem = s.telem := by
  rw [of_eq_ok (txstep_ok p btn s) h]

/-- A pending latch ends in the marker (R35 (iii)). -/
def PendingEndsInMarker (s : State) : Prop := s.frdy = true → s.flatch.read 38 = 0x17

theorem rxbyteEvent_keeps_marker {b : Byte} {s t : State} (hs : PendingEndsInMarker s) (h : rxbyteEvent b s = .ok t) :
    PendingEndsInMarker t := by
  obtain ⟨-, -, ⟨-, -, hmarker⟩ | ⟨-, hfrdy, hlatch⟩⟩ := rxbyteEvent_cases h
  · exact fun _ => hmarker
  · rw [PendingEndsInMarker, hfrdy, hlatch]
    exact hs

theorem rxSeq_keeps_marker {bs : List Byte} {s t : State} (hs : PendingEndsInMarker s) (h : rxSeq bs s = .ok t) :
    PendingEndsInMarker t := by
  induction bs generalizing s with
  | nil => cases h; exact hs
  | cons b bs ih =>
    obtain ⟨u, hu, -⟩ := rxbyteEvent_ok b s
    rw [rxSeq, hu] at h
    exact ih (rxbyteEvent_keeps_marker hs hu) h

/-- The poll leaves `TELEM`, or takes it from a pending latch that is not rejected (R171 to R174). -/
theorem rxpoll_telem_cases (p : Config.Params) (s : State) :
    (rxpoll p s).telem = s.telem ∨
      s.frdy = true ∧ rejects p s = false ∧ (rxpoll p s).telem = telemOfBytes (latched s) := by
  rw [rxpoll_telem]
  cases s.frdy with
  | false => exact .inl rfl
  | true =>
    cases rejects p s with
    | false => exact .inr ⟨rfl, rfl, rfl⟩
    | true => exact .inl rfl

theorem csum_eq_of_not_rejects {s : State} (h : rejects Config.params s = false) :
    Config.csum (s.flatch.bytes 0 37) = s.flatch.read 37 :=
  not_not.mp fun hne => Bool.false_ne_true (h.symm.trans ((rejects_params_iff s).mpr hne))

/-- What was fetched is an event or nothing, and the state it finds differs in the stimuli alone (R51, R97). -/
theorem fetch_cases {s s' : State} {o : Option Instr} (h : fetch s = some (.ok (o, s'))) :
    (∃ stim, s' = setStim stim s) ∧ ∀ i, o = some i → ∃ e : Event, e.instr = i := by
  unfold fetch at h
  cases hs : s.stim with
  | nil => rw [hs] at h; cases h
  | cons w rest =>
    rw [hs] at h
    cases hd : decodeStim w with
    | error e => simp only [hd, Except.map] at h; cases h
    | ok d =>
      simp only [hd, Except.map] at h
      cases h
      exact ⟨⟨_, rfl⟩, fun i hi => decodeStim_first hd hi⟩

/-- A completed step with what it fetched: nothing performed, with the stimuli alone replaced, or one event. -/
theorem step_fetch_cases {s t : State} (h : step s = .next t) :
    (∃ stim, t = setStim stim s) ∨
      ∃ (e : Event) (stim : List (List Byte)), fetch s = some (.ok (some e.instr, setStim stim s)) ∧
        exec e.instr (setStim stim s) = .next t := by
  unfold step stepBy at h
  cases hf : fetch s with
  | none => rw [hf] at h; cases h; exact .inl ⟨s.stim, rfl⟩
  | some r =>
    obtain err | ⟨o, s'⟩ := r
    · rw [hf] at h; cases h
    · obtain ⟨⟨stim, rfl⟩, hevent⟩ := fetch_cases hf
      rw [hf] at h
      cases o with
      | none => cases h; exact .inl ⟨stim, rfl⟩
      | some i =>
        obtain ⟨e, rfl⟩ := hevent i rfl
        exact .inr ⟨e, stim, rfl, h⟩

/-- `TELEM` from the pending latch of the state before, which has its own checksum at 37. -/
def TelemFromVerifiedLatch (s t : State) : Prop :=
  s.frdy = true ∧ Config.csum (s.flatch.bytes 0 37) = s.flatch.read 37 ∧ t.telem = telemOfBytes (s.flatch.bytes 0 39)

/-- What an event does to `TELEM`. -/
theorem exec_event_telem {e : Event} {s t : State} (h : exec e.instr s = .next t) :
    t.telem = s.telem ∨ (t.telem = telemZero ∧ e = .reset) ∨ TelemFromVerifiedLatch s t := by
  cases e with
  | ctrlframe _ _ => exact .inl (rxSeq_telem (rxSeq_of_exec_ctrlframe h))
  | telemframe _ _ => exact .inl (rxSeq_telem (rxSeq_of_exec_telemframe h))
  | reset => cases h; exact .inr (.inl ⟨rfl, rfl⟩)
  | rxbyte _ => exact .inl (rxbyteEvent_telem (eq_ok_of_ending h))
  | tick _ =>
    obtain ⟨-, htelem, -, -⟩ := tickEvent_polls (eq_ok_of_ending h)
    rw [TelemFromVerifiedLatch, htelem]
    obtain hkeep | ⟨hfrdy, hrej, htake⟩ := rxpoll_telem_cases Config.params s
    · exact .inl hkeep
    · exact .inr (.inr ⟨hfrdy, csum_eq_of_not_rejects hrej, htake⟩)

/-- Every event keeps R35 (iii), in every state. -/
theorem exec_event_keeps_marker {e : Event} {s t : State} (hs : PendingEndsInMarker s) (h : exec e.instr s = .next t) :
    PendingEndsInMarker t := by
  cases e with
  | ctrlframe _ _ => exact rxSeq_keeps_marker hs (rxSeq_of_exec_ctrlframe h)
  | telemframe _ _ => exact rxSeq_keeps_marker hs (rxSeq_of_exec_telemframe h)
  | reset => cases h; exact nofun
  | rxbyte _ => exact rxbyteEvent_keeps_marker hs (eq_ok_of_ending h)
  | tick _ =>
    obtain ⟨hfrdy, -⟩ := tickEvent_polls (eq_ok_of_ending h)
    exact fun ht => absurd (hfrdy.symm.trans ht) Bool.false_ne_true

/-- Settles O32: a step is at most one event on the state with the stimuli replaced, and of the events TICK alone takes
`TELEM` from the latch, where its poll does not reject it. -/
theorem telemetryComesFromAVerifiedLatch : Obligations.TelemetryComesFromAVerifiedLatch := by
  intro s t hs ht
  obtain ⟨stim, rfl⟩ | ⟨e, stim, hfetch, he⟩ := step_fetch_cases ht
  · exact ⟨.inl rfl, hs⟩
  · refine ⟨?_, exec_event_keeps_marker (s := setStim stim s) hs he⟩
    obtain hkeep | ⟨hzero, rfl⟩ | ⟨hfrdy, hcsum, htelem⟩ := exec_event_telem he
    · exact .inl hkeep
    · exact .inr (.inl ⟨hzero, _, hfetch⟩)
    · exact .inr (.inr ⟨hfrdy, hs hfrdy, hcsum, htelem⟩)

/-! ### TELEM under every instruction (R176 (d), R28) -/

/-- A store that did not fault replaced the contents of `ABUF`, and then its effect ran. -/
theorem exists_of_storeThen {b : Byte} {effect : State → State} {s t : State} (h : storeThen b effect s = .ok t) :
    ∃ m, t = effect { s with abuf := m } := by
  unfold storeThen writeAt at h
  split at h
  · cases h; exact ⟨_, rfl⟩
  · cases h

/-- SEND that did not fault handed a byte over and advanced. -/
theorem exists_of_sendByte {s t : State} (h : sendByte s = .ok t) : ∃ d, t = advanceTx (emitTx true d s) := by
  unfold sendByte readAt at h
  split at h
  · cases h; exact ⟨_, rfl⟩
  · cases h

/-- A frame pending before was accepted and consumed (R173). -/
def AcceptsPending (s t : State) : Prop := s.frdy = true ∧ t.frdy = false ∧ t.out.rxPoll = .accepted

/-- The poll changes `TELEM` only where it accepts. -/
theorem rxpoll_accepts (p : Config.Params) (s : State) :
    (rxpoll p s).telem = s.telem ∨ AcceptsPending s (rxpoll p s) := by
  refine (rxpoll_telem_cases p s).imp_right fun ⟨hfrdy, hrej, _⟩ => ⟨hfrdy, by rw [rxpoll_frame], ?_⟩
  rw [rxpoll_rxPoll, hfrdy, hrej]
  rfl

theorem tickEvent_accepts {p : Config.Params} {inputs : TickInputs} {s t : State} (h : tickEvent p inputs s = .ok t) :
    t.telem = s.telem ∨ AcceptsPending s t := by
  obtain ⟨hfrdy, htelem, hpoll, -⟩ := tickEvent_polls h
  rw [htelem]
  exact (rxpoll_accepts p s).imp_right fun ⟨hs, _, hacc⟩ => ⟨hs, hfrdy, hpoll.trans hacc⟩

/-- An instruction keeps `TELEM`, is RESET, or accepts a pending frame as a TICK, a poll or a row that ends in ACCEPT. -/
theorem exec_telem_cases {i : Instr} {s t : State} (h : exec i s = .next t) :
    t.telem = s.telem ∨ i = .reset ∨ AcceptsPending s t ∧
      ((∃ inputs, i = .tick inputs) ∨ i = .rxpoll ∨ i = .rxpollValidate ∨ i = .rxpollAccept) := by
  cases i with
  | reset => exact .inr (.inl rfl)
  | tick inputs =>
    exact (tickEvent_accepts (eq_ok_of_ending h)).imp_right fun hacc => .inr ⟨hacc, .inl ⟨inputs, rfl⟩⟩
  | rxpoll => cases h; exact (rxpoll_accepts _ s).imp_right fun hacc => .inr ⟨hacc, .inr (.inl rfl)⟩
  | rxpollValidate =>
    cases (exec_rxpollValidate (of_whenSelected h).1).symm.trans h
    exact (rxpoll_accepts _ s).imp_right fun hacc => .inr ⟨hacc, .inr (.inr (.inl rfl))⟩
  | rxpollAccept =>
    obtain ⟨hfrdy, -⟩ := Bool.and_eq_true_iff.mp (of_whenSelected h).1
    rw [eq_of_whenSelected_ok h]
    exact .inr (.inr ⟨⟨hfrdy, rfl, rfl⟩, .inr (.inr (.inr rfl))⟩)
  | rxpollReject => rw [eq_of_whenSelected_ok h, validateReject_eq]; exact .inl rfl
  | ctrlframe _ _ => exact .inl (rxSeq_telem (rxSeq_of_exec_ctrlframe h))
  | telemframe _ _ => exact .inl (rxSeq_telem (rxSeq_of_exec_telemframe h))
  | rxbyte _ => exact .inl (rxbyteEvent_telem (eq_ok_of_ending h))
  | rxbyteOverflow b =>
    have hover := (overflowing_iff s).mp (of_whenSelected h).1
    exact .inl (rxbyteEvent_telem (eq_ok_of_ending ((exec_rxbyteOverflow b hover).symm.trans h)))
  | rxbyteStore _ | rxbyteComplete _ | rxbyteDesync _ =>
    obtain ⟨m, rfl⟩ := exists_of_storeThen (of_whenSelected h).2
    exact .inl rfl
  | txstep _ => exact .inl (txstep_telem (eq_ok_of_ending h))
  | txstepLoad _ | txstepSend =>
    obtain ⟨d, rfl⟩ := exists_of_sendByte (of_whenSelected h).2
    exact .inl rfl
  | pageeval _ _ _ => cases h; rw [pageeval_frame]; exact .inl rfl
  | pageevalP0 done => rw [eq_of_whenSelected_ok h]; cases done <;> exact .inl rfl
  | txstepGap | rxpollIdle | pageevalCnt _ _ | pageevalP1 | pageevalP2 | pageevalP3 | pageevalP4 | pageevalP5 _ _
  | pageevalP6 _ _ | pageevalNone _ _ => rw [eq_of_whenSelected_ok h]; exact .inl rfl
  | encode _ | csum _ => cases h; exact .inl rfl
  | decode _ =>
    obtain ⟨r, rfl⟩ := eq_returnResult_of_execDecode h
    exact .inl rfl

/-- Settles O33: `exec_telem_cases` where `TELEM` is not kept. -/
theorem telemetryChangesOnlyOnAccept : Obligations.TelemetryChangesOnlyOnAccept := fun _ _ _ h hne =>
  ((exec_telem_cases h).resolve_left hne).imp_right fun ⟨⟨hs, ht, hacc⟩, hrow⟩ => ⟨hs, ht, hacc, hrow⟩

end Sys2Proof.Machine
end

section
/-!
PROOFS. PageController (43_page_controller.md): the eight cases of an evaluation and their rows (R192 to R200), the table of
transitions (R206), that a settled page stays put (R203), and the reset combo (R193, R199).
-/

namespace Sys2Proof.Machine

open Claims

/-! ### CNT and a rule's match (R193, R201, R202) -/

theorem nextCombo_eq_countAfter (sel alt : Bool) (c : Fin 6) : nextCombo sel alt c = countAfter sel alt c := by
  cases sel <;> cases alt <;> rfl

theorem applyCnt_eq (sel alt : Bool) (s : State) :
    applyCnt sel alt s = { s with comboCnt := countAfter sel alt s.comboCnt } := by
  rw [← nextCombo_eq_countAfter]
  rfl

theorem countAfter_of_not_held {sel alt : Bool} (h : ¬(sel = true ∧ alt = true)) (c : Fin 6) : countAfter sel alt c = 0 :=
  if_neg h

theorem countAfter_held_val (c : Fin 6) : (countAfter true true c).val = min (c.val + 1) 5 := rfl

theorem takeRule_of_ne {s : State} {new : Page} (h : s.page ≠ new) (r : PageRule) (ri : Bool) :
    takeRule r new ri s = { s with page := new, out := pageOutputs r true ri s.out } := by
  rw [takeRule, decide_eq_true h.symm]
  rfl

theorem takeRule_same (s : State) (r : PageRule) (ri : Bool) :
    takeRule r s.page ri s = { s with out := pageOutputs r false ri s.out } := by
  rw [takeRule, decide_eq_false (not_not.mpr rfl)]
  rfl

/-! ### The first rule that matches, in words (R194 to R200) -/

/-- R200's steady states: without the count, no rule matches. -/
def Steady (s : State) : Prop :=
  ¬LeakSeen s ∧ (s.page = .mode1 ∧ ¬EmergSeen s ∨ s.page = .emergency ∧ EmergSeen s)

theorem Steady.ne_init {s : State} (h : Steady s) : s.page ≠ .init := by
  obtain ⟨-, ⟨hp, -⟩ | ⟨hp, -⟩⟩ := h <;> rw [hp] <;> decide

theorem Steady.not_higher {s : State} (h : Steady s) : ¬higherRuleOrInit s := by
  obtain ⟨hl, ⟨hp, he⟩ | ⟨hp, he⟩⟩ := h <;>
    · simp only [higherRuleOrInit, hp, reduceCtorEq]
      tauto

theorem Steady.congr {s t : State} (h : Steady s) (htelem : t.telem = s.telem) (hpage : t.page = s.page) : Steady t := by
  simpa only [Steady, LeakSeen, EmergSeen, htelem, hpage] using h

theorem firstRule_of_leak (sel alt : Bool) {s : State} (hl : LeakSeen s) : firstRule sel alt s = .p1 :=
  if_pos ((guardP1_iff s).mpr hl)

theorem firstRule_of_cleared_leak (sel alt : Bool) {s : State} (hp : s.page = .leak) (hl : ¬LeakSeen s)
    (he : ¬EmergSeen s) : firstRule sel alt s = .p2 := by
  rw [firstRule, if_neg (mt (guardP1_iff s).mp hl), if_pos ((guardP2_iff s).mpr ⟨hp, hl, he⟩)]

theorem firstRule_of_emergency (sel alt : Bool) {s : State} (hp : s.page ≠ .emergency) (hl : ¬LeakSeen s)
    (he : EmergSeen s) : firstRule sel alt s = .p3 := by
  have h2 : ¬guardP2 s = true := fun h => ((guardP2_iff s).mp h).2.2 he
  rw [firstRule, if_neg (mt (guardP1_iff s).mp hl), if_neg h2, if_pos ((guardP3_iff s).mpr ⟨hp, hl, he⟩)]

theorem firstRule_of_cleared_emergency (sel alt : Bool) {s : State} (hp : s.page = .emergency) (hl : ¬LeakSeen s)
    (he : ¬EmergSeen s) : firstRule sel alt s = .p4 := by
  have h2 : ¬guardP2 s = true := fun h => nomatch hp.symm.trans ((guardP2_iff s).mp h).1
  have h3 : ¬guardP3 s = true := fun h => ((guardP3_iff s).mp h).1 hp
  rw [firstRule, if_neg (mt (guardP1_iff s).mp hl), if_neg h2, if_neg h3, if_pos ((guardP4_iff s).mpr ⟨hp, hl, he⟩)]

/-! ### A row where its condition selects it (R98) -/

theorem whenSelected_of_selected {m : String} {c : Bool} (t : State) (h : c = true) :
    whenSelected m c (.ok t) = .next t := by rw [h, whenSelected_true, ending_ok]

/-- A row of P1 to NONE runs outside `Init` where its own condition holds. -/
theorem row_of_selected {m : String} {c : Bool} {s : State} (t : State) (hinit : s.page ≠ .init) (h : c = true) :
    whenSelected m (evaluating s && c) (.ok t) = .next t :=
  whenSelected_of_selected t (Bool.and_eq_true_iff.mpr ⟨(evaluating_iff s).mpr hinit, h⟩)

/-- A row that moves to another page (R201, R202). -/
theorem row_of_move {m : String} {c : Bool} {s : State} {r : PageRule} {new : Page} (hinit : s.page ≠ .init)
    (h : c = true) (hne : s.page ≠ new) :
    whenSelected m (evaluating s && c) (.ok (takeRule r new false s)) =
      .next { s with page := new, out := pageOutputs r true false s.out } := by
  rw [row_of_selected _ hinit h, takeRule_of_ne hne]

/-! ### An evaluation, case by case (R190) -/

theorem exec_pageeval (sel alt done : Bool) (s : State) :
    exec (.pageeval sel alt done) s = .next (pageeval sel alt done s) := rfl

/-- In `Init` the evaluation is its row P0 (R192). -/
theorem exec_pageevalP0 (sel alt done : Bool) {s : State} (h : s.page = .init) :
    exec (.pageevalP0 done) s = exec (.pageeval sel alt done) s := by
  rw [exec_pageeval, pageeval_init sel alt done s h]
  exact whenSelected_of_selected _ (decide_eq_true h)

theorem pageeval_hold (sel alt : Bool) {s : State} (h : s.page = .init) :
    pageeval sel alt false s = { s with comboCnt := 0, out := pageOutputs .none false false s.out } := by
  rw [pageeval_init sel alt false s h]
  exact takeRule_same { s with comboCnt := 0 } .none false

theorem splashPage_eq (s : State) :
    splashPage s = if LeakSeen s then .leak else if EmergSeen s then .emergency else .mode1 := by
  simp only [splashPage, leak_iff, emerg_iff]

theorem pageeval_splash (sel alt : Bool) {s : State} (h : s.page = .init) :
    pageeval sel alt true s = { s with
      page := splashPage s, initCplt := true, comboCnt := 0, out := pageOutputs .p0 true false s.out } := by
  rw [pageeval_init sel alt true s h]
  have hne : s.page ≠ splashPage s := h ▸ (splashPage_ne_init s).symm
  exact takeRule_of_ne (s := { s with comboCnt := 0, initCplt := true }) hne .p0 false

/-- Outside `Init` an evaluation is CNT and the first rule that matches (R190). -/
theorem pageeval_of_firstRule {sel alt : Bool} {s : State} {r : PageRule} (done : Bool) (hinit : s.page ≠ .init)
    (hr : firstRule sel alt { s with comboCnt := countAfter sel alt s.comboCnt } = r) :
    pageeval sel alt done s = applyRule r { s with comboCnt := countAfter sel alt s.comboCnt } := by
  rw [pageeval_of_ne_init sel alt done s hinit, applyCnt_eq, hr]

/-- A rule that moves to another page, after CNT (R193, R201). -/
theorem pageeval_of_move {sel alt : Bool} {s : State} {r : PageRule} {new : Page} (done : Bool) (hinit : s.page ≠ .init)
    (hr : firstRule sel alt { s with comboCnt := countAfter sel alt s.comboCnt } = r)
    (happly : applyRule r = takeRule r new false) (hne : s.page ≠ new) :
    pageeval sel alt done s = { s with
      page := new, comboCnt := countAfter sel alt s.comboCnt, out := pageOutputs r true false s.out } := by
  rw [pageeval_of_firstRule done hinit hr, happly]
  exact takeRule_of_ne (s := { s with comboCnt := countAfter sel alt s.comboCnt }) hne r false

theorem applyP1_eq (s : State) :
    applyP1 s = { s with page := .leak, out := pageOutputs .p1 (decide (s.page ≠ .leak)) false s.out } := by
  rw [decide_eq_decide.mpr (ne_comm (a := s.page))]
  rfl

theorem pageeval_of_leak (sel alt done : Bool) {s : State} (hinit : s.page ≠ .init) (hl : LeakSeen s) :
    pageeval sel alt done s = { s with
      page := .leak, comboCnt := countAfter sel alt s.comboCnt,
      out := pageOutputs .p1 (decide (s.page ≠ .leak)) false s.out } :=
  (pageeval_of_firstRule done hinit (firstRule_of_leak sel alt hl)).trans (applyP1_eq _)

theorem pageeval_of_cleared_leak (sel alt done : Bool) {s : State} (hp : s.page = .leak) (hl : ¬LeakSeen s)
    (he : ¬EmergSeen s) :
    pageeval sel alt done s = { s with
      page := .mode1, comboCnt := countAfter sel alt s.comboCnt, out := pageOutputs .p2 true false s.out } :=
  pageeval_of_move done (by simp [hp]) (firstRule_of_cleared_leak sel alt hp hl he) rfl (by simp [hp])

theorem pageeval_of_emergency (sel alt done : Bool) {s : State} (hinit : s.page ≠ .init) (hp : s.page ≠ .emergency)
    (hl : ¬LeakSeen s) (he : EmergSeen s) :
    pageeval sel alt done s = { s with
      page := .emergency, comboCnt := countAfter sel alt s.comboCnt, out := pageOutputs .p3 true false s.out } :=
  pageeval_of_move done hinit (firstRule_of_emergency sel alt hp hl he) rfl hp

theorem pageeval_of_cleared_emergency (sel alt done : Bool) {s : State} (hp : s.page = .emergency) (hl : ¬LeakSeen s)
    (he : ¬EmergSeen s) :
    pageeval sel alt done s = { s with
      page := .mode1, comboCnt := countAfter sel alt s.comboCnt, out := pageOutputs .p4 true false s.out } :=
  pageeval_of_move done (by simp [hp]) (firstRule_of_cleared_emergency sel alt hp hl he) rfl (by simp [hp])

theorem firstRule_of_steady (sel alt : Bool) {s : State} (h : Steady s) (c : Fin 6) :
    firstRule sel alt { s with comboCnt := c } = if c = 5 then .p6 else .none :=
  firstRule_of_not_higher sel alt (s := { s with comboCnt := c }) h.not_higher

theorem applyP6_eq {s : State} (hinit : s.page ≠ .init) :
    applyP6 s = { s with
      page := .init, initCplt := false, comboCnt := 0, out := pageOutputs .p6 true true s.out } :=
  takeRule_of_ne (s := { s with initCplt := false, comboCnt := 0 }) hinit .p6 true

theorem pageeval_of_steady_full (sel alt done : Bool) {s : State} (h : Steady s)
    (hc : countAfter sel alt s.comboCnt = 5) :
    pageeval sel alt done s = { s with
      page := .init, initCplt := false, comboCnt := 0, out := pageOutputs .p6 true true s.out } :=
  (pageeval_of_firstRule done h.ne_init ((firstRule_of_steady sel alt h _).trans (if_pos hc))).trans
    (applyP6_eq (s := { s with comboCnt := countAfter sel alt s.comboCnt }) h.ne_init)

theorem pageeval_of_steady (sel alt done : Bool) {s : State} (h : Steady s) (hc : countAfter sel alt s.comboCnt ≠ 5) :
    pageeval sel alt done s = { s with
      comboCnt := countAfter sel alt s.comboCnt, out := pageOutputs .none false false s.out } :=
  (pageeval_of_firstRule done h.ne_init ((firstRule_of_steady sel alt h _).trans (if_neg hc))).trans
    (takeRule_same _ .none false)

/-! ### The rows P0 to NONE (R192 to R200) -/

/-- Settles O34: the hold and the end of the splash are the two cases of P0. -/
theorem initHoldsUntilSequenceDone : Obligations.InitHoldsUntilSequenceDone := by
  intro s sel alt h
  refine ⟨congrArg _ (pageeval_hold sel alt h), exec_pageevalP0 sel alt false h, ?_, exec_pageevalP0 sel alt true h⟩
  rw [exec_pageeval, pageeval_splash sel alt h, splashPage_eq]

/-- Settles O36: P1 has no condition but the leak. -/
theorem leakForcesTheLeakPage : Obligations.LeakForcesTheLeakPage := fun s sel alt done hinit hl =>
  ⟨(row_of_selected _ hinit ((guardP1_iff s).mpr hl)).trans (congrArg _ (applyP1_eq s)),
    congrArg _ (pageeval_of_leak sel alt done hinit hl)⟩

/-- Settles O37: P2 is the first rule there, and it moves. -/
theorem clearedLeakReturnsToMode1 : Obligations.ClearedLeakReturnsToMode1 := fun s sel alt done hp hl he =>
  ⟨row_of_move (by simp [hp]) ((guardP2_iff s).mpr ⟨hp, hl, he⟩) (by simp [hp]),
    congrArg _ (pageeval_of_cleared_leak sel alt done hp hl he)⟩

/-- Settles O38: P3 is the first rule there, and it moves. -/
theorem emergencyForcesItsPage : Obligations.EmergencyForcesItsPage := by
  intro s sel alt done hp hl he
  have hinit : s.page ≠ .init := fun h => by simp [h] at hp
  have hne : s.page ≠ .emergency := fun h => by simp [h] at hp
  exact ⟨row_of_move hinit ((guardP3_iff s).mpr ⟨hne, hl, he⟩) hne,
    congrArg _ (pageeval_of_emergency sel alt done hinit hne hl he)⟩

/-- Settles O39: P4 is the first rule there, and it moves. -/
theorem clearedEmergencyReturnsToMode1 : Obligations.ClearedEmergencyReturnsToMode1 := fun s sel alt done hp hl he =>
  ⟨row_of_move (by simp [hp]) ((guardP4_iff s).mpr ⟨hp, hl, he⟩) (by simp [hp]),
    congrArg _ (pageeval_of_cleared_emergency sel alt done hp hl he)⟩

/-- Settles O40: outside `Init` and `Mode1` the buttons and the flags meet the guard of P5. -/
theorem modeSelectRuleByItself : Obligations.ModeSelectRuleByItself := by
  intro s hp hl he
  have hinit : s.page ≠ .init := fun h => by simp [h] at hp
  have hne : s.page ≠ .mode1 := fun h => by simp [h] at hp
  exact row_of_move hinit ((guardP5_iff true false s).mpr ⟨rfl, nofun, hne, hl, he⟩) hne

/-- Settles O42: in a steady state the count alone selects P6. -/
theorem fullCountReinitializes : Obligations.FullCountReinitializes := by
  intro s sel alt done hl hp
  have h : Steady s := ⟨hl, hp⟩
  refine ⟨fun hc => ?_, fun hc => congrArg _ (pageeval_of_steady_full sel alt done h hc)⟩
  have hrule := (firstRule_eq_p6_iff sel alt h.ne_init).mpr ⟨h.not_higher, hc⟩
  exact (row_of_selected _ h.ne_init (decide_eq_true hrule)).trans (congrArg _ (applyP6_eq h.ne_init))

/-- Settles O43: in a steady state the count alone keeps P6 from matching. -/
theorem noRuleKeepsThePage : Obligations.NoRuleKeepsThePage := by
  intro s sel alt done hl hp
  have h : Steady s := ⟨hl, hp⟩
  refine ⟨fun hc => ?_, fun hc => congrArg _ (pageeval_of_steady sel alt done h hc)⟩
  have hrule := (firstRule_eq_none_iff sel alt h.ne_init).mpr ⟨h.not_higher, hc⟩
  exact (row_of_selected _ h.ne_init (decide_eq_true hrule)).trans (congrArg _ (takeRule_same s .none false))

/-! ### What an evaluation can do, said once (R190, R201) -/

/-- The eight cases of an evaluation, each with its condition and the state it gives; `evaluation_pageeval` says that
PAGEEVAL is always in one of them. -/
inductive Evaluation (sel alt done : Bool) (s : State) : State → Prop
  /-- R192, before `init_seq_done`. -/
  | hold (hp : s.page = .init) (hdone : done = false) : Evaluation sel alt done s
      { s with comboCnt := 0, out := pageOutputs .none false false s.out }
  /-- R192, at `init_seq_done`. -/
  | splash (hp : s.page = .init) (hdone : done = true) : Evaluation sel alt done s { s with
      page := splashPage s, initCplt := true, comboCnt := 0, out := pageOutputs .p0 true false s.out }
  /-- R194. -/
  | leak (hinit : s.page ≠ .init) (hl : LeakSeen s) : Evaluation sel alt done s { s with
      page := .leak, comboCnt := countAfter sel alt s.comboCnt,
      out := pageOutputs .p1 (decide (s.page ≠ .leak)) false s.out }
  /-- R195. -/
  | clearedLeak (hp : s.page = .leak) (hl : ¬LeakSeen s) (he : ¬EmergSeen s) : Evaluation sel alt done s { s with
      page := .mode1, comboCnt := countAfter sel alt s.comboCnt, out := pageOutputs .p2 true false s.out }
  /-- R196. -/
  | emergency (hinit : s.page ≠ .init) (hp : s.page ≠ .emergency) (hl : ¬LeakSeen s) (he : EmergSeen s) :
      Evaluation sel alt done s { s with
        page := .emergency, comboCnt := countAfter sel alt s.comboCnt, out := pageOutputs .p3 true false s.out }
  /-- R197. -/
  | clearedEmergency (hp : s.page = .emergency) (hl : ¬LeakSeen s) (he : ¬EmergSeen s) : Evaluation sel alt done s
      { s with
        page := .mode1, comboCnt := countAfter sel alt s.comboCnt, out := pageOutputs .p4 true false s.out }
  /-- R199. -/
  | reinit (h : Steady s) (hc : countAfter sel alt s.comboCnt = 5) : Evaluation sel alt done s { s with
      page := .init, initCplt := false, comboCnt := 0, out := pageOutputs .p6 true true s.out }
  /-- R200. -/
  | steady (h : Steady s) (hc : countAfter sel alt s.comboCnt ≠ 5) : Evaluation sel alt done s { s with
      comboCnt := countAfter sel alt s.comboCnt, out := pageOutputs .none false false s.out }

theorem evaluation_of_steady (sel alt done : Bool) {s : State} (h : Steady s) :
    Evaluation sel alt done s (pageeval sel alt done s) := by
  by_cases hc : countAfter sel alt s.comboCnt = 5
  · rw [pageeval_of_steady_full sel alt done h hc]; exact .reinit h hc
  · rw [pageeval_of_steady sel alt done h hc]; exact .steady h hc

theorem evaluation_pageeval (sel alt done : Bool) (s : State) :
    Evaluation sel alt done s (pageeval sel alt done s) := by
  by_cases hinit : s.page = .init
  · cases done with
    | false => rw [pageeval_hold sel alt hinit]; exact .hold hinit rfl
    | true => rw [pageeval_splash sel alt hinit]; exact .splash hinit rfl
  by_cases hl : LeakSeen s
  · rw [pageeval_of_leak sel alt done hinit hl]; exact .leak hinit hl
  by_cases he : EmergSeen s
  · by_cases hp : s.page = .emergency
    · exact evaluation_of_steady sel alt done ⟨hl, .inr ⟨hp, he⟩⟩
    · rw [pageeval_of_emergency sel alt done hinit hp hl he]; exact .emergency hinit hp hl he
  · cases hp : s.page with
    | init => exact absurd hp hinit
    | mode1 => exact evaluation_of_steady sel alt done ⟨hl, .inl ⟨hp, he⟩⟩
    | leak => rw [pageeval_of_cleared_leak sel alt done hp hl he]; exact .clearedLeak hp hl he
    | emergency => rw [pageeval_of_cleared_emergency sel alt done hp hl he]; exact .clearedEmergency hp hl he

/-! ### The debounce counter (R193) -/

theorem Evaluation.comboCnt_eq {sel alt done : Bool} {s t : State} (h : Evaluation sel alt done s t)
    (hinit : s.page ≠ .init) :
    t.comboCnt = if t.out.pageRule = .p6 then 0 else countAfter sel alt s.comboCnt := by
  cases h with
  | hold hp _ | splash hp _ => exact absurd hp hinit
  | leak _ _ | clearedLeak _ _ _ | emergency _ _ _ _ | clearedEmergency _ _ _ | reinit _ _ | steady _ _ => rfl

/-- Settles O35: the row is CNT, and of the cases of an evaluation outside `Init` P6 alone writes the count again. -/
theorem debounceCounterFollowsTheButtons : Obligations.DebounceCounterFollowsTheButtons := by
  intro s sel alt done hinit
  have hcnt := (evaluation_pageeval sel alt done s).comboCnt_eq hinit
  refine ⟨?_, _, exec_pageeval sel alt done s, fun h => hcnt.trans (if_neg h), fun h => hcnt.trans (if_pos h)⟩
  exact (whenSelected_of_selected _ ((evaluating_iff s).mpr hinit)).trans (congrArg _ (applyCnt_eq sel alt s))

/-! ### P5 is dead (R205) -/

theorem Evaluation.pageRule_ne_p5 {sel alt done : Bool} {s t : State} (h : Evaluation sel alt done s t) :
    t.out.pageRule ≠ .p5 := by cases h <;> exact nofun

/-- What a TICK does on the page side is an evaluation, from a state with the page of the one before it. -/
theorem exec_tick_evaluates (inputs : TickInputs) (s : State) :
    ∃ u t, exec (.tick inputs) s = .next t ∧ u.page = s.page ∧
      Evaluation inputs.modeSel inputs.modeAlt inputs.initSeqDone u t := by
  obtain ⟨u, hu, ht⟩ := tickEvent_eq Config.params inputs s
  have hus := of_eq_ok (txstep_ok Config.params inputs.btn (clearOut s)) hu
  refine ⟨_, _, exec_tick_of_ok ht, ?_, evaluation_pageeval _ _ _ _⟩
  rw [rxpoll_frame, hus]
  rfl

/-- Settles O41: P5 is no case of an evaluation. -/
theorem modeSelectRuleIsNeverFirst : Obligations.ModeSelectRuleIsNeverFirst := by
  refine ⟨fun s t sel alt done h => ?_, fun s t inputs h => ?_⟩
  · cases h
    exact (evaluation_pageeval sel alt done s).pageRule_ne_p5
  · obtain ⟨u, t', ht', -, heval⟩ := exec_tick_evaluates inputs s
    cases ht'.symm.trans h
    exact heval.pageRule_ne_p5

/-! ### The table of transitions (R206) -/

/-- The rows of the table are the evaluations that change the page, with the rule they report. -/
theorem Evaluation.transitionRow_iff {sel alt done : Bool} {s t : State} (h : Evaluation sel alt done s t) (dst : Page)
    (r : PageRule) :
    transitionRow s.page dst r (LeakSeen s) (EmergSeen s) (done = true) (countAfter sel alt s.comboCnt).val ↔
      dst = t.page ∧ t.page ≠ s.page ∧ r = t.out.pageRule := by
  cases h with
  | hold hp hdone => simp [transitionRow, hp, hdone]
  | splash hp hdone =>
    rw [splashPage_eq, hp, eq_true hdone]
    by_cases hl : LeakSeen s
    · rw [if_pos hl, eq_true hl]; simp [transitionRow, pageOutputs]
    by_cases he : EmergSeen s
    · rw [if_neg hl, if_pos he, eq_false hl, eq_true he]; simp [transitionRow, pageOutputs]
    · rw [if_neg hl, if_neg he, eq_false hl, eq_false he]; simp [transitionRow, pageOutputs]
  | leak hinit hl =>
    rw [eq_true hl]
    cases hp : s.page with
    | init => exact absurd hp hinit
    | mode1 | leak | emergency => simp [transitionRow, pageOutputs]
  | clearedLeak hp hl he | clearedEmergency hp hl he =>
    rw [hp, eq_false hl, eq_false he]; simp [transitionRow, pageOutputs]
  | emergency hinit hne hl he =>
    rw [eq_false hl, eq_true he]
    cases hp : s.page with
    | init => exact absurd hp hinit
    | emergency => exact absurd hp hne
    | mode1 | leak => simp [transitionRow, pageOutputs]
  | reinit h hc =>
    obtain ⟨hl, ⟨hp, he⟩ | ⟨hp, he⟩⟩ := h
    · rw [hp, hc, eq_false hl, eq_false he]; simp [transitionRow, pageOutputs]
    · rw [hp, hc, eq_false hl, eq_true he]; simp [transitionRow, pageOutputs]
  | steady h hc =>
    have hc : (countAfter sel alt s.comboCnt).val ≠ 5 := fun h5 => hc (Fin.ext h5)
    obtain ⟨hl, ⟨hp, he⟩ | ⟨hp, he⟩⟩ := h
    · rw [hp, eq_false hl, eq_false he]; simp [transitionRow, hc]
    · rw [hp, eq_false hl, eq_true he]; simp [transitionRow, hc]

/-- Settles O44: both halves are `transitionRow_iff`, for the evaluation's page and rule. -/
theorem transitionTableIsComplete : Obligations.TransitionTableIsComplete := by
  intro s sel alt done
  have hrow := (evaluation_pageeval sel alt done s).transitionRow_iff
  refine ⟨_, exec_pageeval sel alt done s, fun dst => ⟨⟨fun ⟨hpage, hne⟩ => ?_, fun ⟨r, h⟩ => ?_⟩, fun r h => ?_⟩⟩
  · subst hpage
    exact ⟨_, (hrow _ _).mpr ⟨rfl, hne, rfl⟩⟩
  · obtain ⟨rfl, hne, -⟩ := (hrow dst r).mp h
    exact ⟨rfl, hne⟩
  · obtain ⟨-, -, rfl⟩ := (hrow dst r).mp h
    rfl

/-! ### Leak over emergency (R204) -/

/-- Settles O45: with the leak asserted an evaluation holds `Init`, leaves it, or takes P1. -/
theorem leakDominatesEmergency : Obligations.LeakDominatesEmergency := by
  intro s sel alt done hl _
  refine ⟨_, exec_pageeval sel alt done s, ?_⟩
  by_cases hinit : s.page = .init
  · cases done with
    | false => rw [pageeval_hold sel alt hinit, if_pos ⟨hinit, rfl⟩]; exact hinit
    | true => rw [pageeval_splash sel alt hinit, splashPage_eq, if_pos hl, if_neg nofun]
  · rw [pageeval_of_leak sel alt done hinit hl, if_neg fun h => hinit h.1]

/-! ### Clear signals (R202, R220, R221) -/

/-- `page_changed` and `pl_clear` say that the page changed, and `reinit` that P6 matched. -/
theorem Evaluation.signals {sel alt done : Bool} {s t : State} (h : Evaluation sel alt done s t) :
    (t.out.plClear = true ↔ t.page ≠ s.page) ∧ t.out.pageChanged = t.out.plClear ∧
      (t.out.reinit = true ↔ t.out.pageRule = .p6) ∧ (t.out.reinit = true → t.out.plClear = true) := by
  cases h with
  | hold _ _ | steady _ _ => simp [pageOutputs]
  | splash hp _ => simp [pageOutputs, hp, splashPage_ne_init]
  | leak _ _ => simp [pageOutputs, ne_comm]
  | clearedLeak hp _ _ | clearedEmergency hp _ _ => simp [pageOutputs, hp]
  | emergency _ hp _ _ => simp [pageOutputs, hp.symm]
  | reinit h _ => simp [pageOutputs, h.ne_init.symm]

/-- Settles O48: a TICK's signals are those of its evaluation. -/
theorem clearSignalsFollowPageChanges : Obligations.ClearSignalsFollowPageChanges := by
  intro s inputs
  obtain ⟨u, t, ht, hpage, heval⟩ := exec_tick_evaluates inputs s
  exact ⟨t, ht, hpage ▸ heval.signals⟩

/-! ### Evaluations one after the other -/

theorem run_replicate_pageeval (sel alt done : Bool) (n : Nat) (s : State) :
    run (List.replicate n (.pageeval sel alt done)) s = .next ((pageeval sel alt done)^[n] s) := by
  induction n generalizing s with
  | zero => rfl
  | succ n ih => rw [List.replicate_succ, run_cons_next _ (exec_pageeval sel alt done s), ih, Function.iterate_succ_apply]

theorem pageeval_telem (sel alt done : Bool) (s : State) : (pageeval sel alt done s).telem = s.telem := by
  rw [pageeval_frame]

/-! ### A settled page (R203) -/

/-- Where P6 cannot match, an evaluation outside `Init` gives the page that the flags ask for: the one P0 picks. -/
theorem Evaluation.page_eq_splashPage {sel alt done : Bool} {s t : State} (h : Evaluation sel alt done s t)
    (hinit : s.page ≠ .init) (hcombo : ¬(sel = true ∧ alt = true) ∨ LeakSeen s) : t.page = splashPage s := by
  rw [splashPage_eq]
  cases h with
  | hold hp _ | splash hp _ => exact absurd hp hinit
  | leak _ hl => rw [if_pos hl]
  | clearedLeak _ hl he | clearedEmergency _ hl he => rw [if_neg hl, if_neg he]
  | emergency _ _ hl he => rw [if_neg hl, if_pos he]
  | reinit h hc => exact absurd (hc.symm.trans (countAfter_of_not_held (hcombo.resolve_right h.1) _)) (by decide)
  | steady h _ =>
    obtain ⟨hl, ⟨hp, he⟩ | ⟨hp, he⟩⟩ := h
    · rw [if_neg hl, if_neg he]; exact hp
    · rw [if_neg hl, if_pos he]; exact hp

/-- The flags of `s`, and the page they ask for. -/
def SettledFrom (s t : State) : Prop := t.telem = s.telem ∧ t.page = splashPage s

theorem splashPage_congr {s t : State} (h : t.telem = s.telem) : splashPage t = splashPage s := by
  unfold splashPage leak emerg
  rw [h]

theorem settledFrom_pageeval {sel alt : Bool} (done : Bool) {s t : State} (htelem : t.telem = s.telem)
    (hinit : t.page ≠ .init) (hcombo : ¬(sel = true ∧ alt = true) ∨ LeakSeen s) :
    SettledFrom s (pageeval sel alt done t) := by
  refine ⟨(pageeval_telem sel alt done t).trans htelem, ?_⟩
  have hcombo' : ¬(sel = true ∧ alt = true) ∨ LeakSeen t := by simpa only [LeakSeen, htelem] using hcombo
  rw [(evaluation_pageeval sel alt done t).page_eq_splashPage hinit hcombo', splashPage_congr htelem]

/-- Settles O46: the first evaluation gives the page the flags ask for, and that page is kept. -/
theorem settledPageStaysPut : Obligations.SettledPageStaysPut := by
  intro s sel alt done n hinit hcombo
  have hfirst : SettledFrom s (pageeval sel alt done s) := settledFrom_pageeval done rfl hinit hcombo
  have hstep (t : State) (h : SettledFrom s t) : SettledFrom s (pageeval sel alt done t) :=
    settledFrom_pageeval done h.1 (h.2 ▸ splashPage_ne_init s) hcombo
  have hlater : SettledFrom s ((pageeval sel alt done)^[n] (pageeval sel alt done s)) :=
    Function.Iterate.rec (SettledFrom s) hfirst hstep n
  exact ⟨_, _, exec_pageeval sel alt done s, run_replicate_pageeval sel alt done n _, hlater.2.trans hfirst.2.symm⟩

/-! ### The reset combo (R193, R199) -/

/-- The flags and the page of `s`, with `n` held evaluations counted. -/
structure HeldFrom (s : State) (n : Nat) (t : State) : Prop where
  telem : t.telem = s.telem
  page : t.page = s.page
  count : t.comboCnt.val = n

theorem HeldFrom.steady {s t : State} {n : Nat} (h : HeldFrom s n t) (hs : Steady s) : Steady t :=
  hs.congr h.telem h.page

/-- Below the threshold a held evaluation only counts (R193, R200). -/
theorem heldFrom_iterate (done : Bool) {s : State} (hs : Steady s) (hc : s.comboCnt = 0) {n : Nat} (hn : n < 5) :
    HeldFrom s n ((pageeval true true done)^[n] s) := by
  induction n with
  | zero => exact ⟨rfl, rfl, congrArg Fin.val hc⟩
  | succ n ih =>
    have h := ih (by omega)
    rw [Function.iterate_succ_apply']
    generalize (pageeval true true done)^[n] s = t at h
    have hcount : (countAfter true true t.comboCnt).val = n + 1 := by rw [countAfter_held_val, h.count]; omega
    have hbelow : countAfter true true t.comboCnt ≠ 5 := fun h5 => by rw [h5] at hcount; omega
    rw [pageeval_of_steady true true done (h.steady hs) hbelow]
    exact ⟨h.telem, h.page, hcount⟩

/-- A release returns the count of a steady state to 0 and keeps the page (R193, R200). -/
theorem pageeval_released {sel alt : Bool} (done : Bool) {s : State} (hs : Steady s) (h : ¬(sel = true ∧ alt = true)) :
    (pageeval sel alt done s).comboCnt = 0 ∧ (pageeval sel alt done s).page = s.page := by
  have hc : countAfter sel alt s.comboCnt = 0 := countAfter_of_not_held h _
  rw [pageeval_of_steady sel alt done hs (hc ▸ by decide)]
  exact ⟨hc, rfl⟩

/-- Settles O47: four held evaluations count, and the fifth finds the count at its threshold. -/
theorem fifthHeldEvaluationReinitializes : Obligations.FifthHeldEvaluationReinitializes := by
  intro s done hl hc hp
  have hs : Steady s := ⟨hl, hp⟩
  refine ⟨fun n hn => ?_, _, run_replicate_pageeval true true done 5 s, ?_⟩
  · have h := heldFrom_iterate done hs hc hn
    refine ⟨_, run_replicate_pageeval true true done n s, h.page, h.count, fun sel alt hrel => ?_⟩
    obtain ⟨hcnt, hpage⟩ := pageeval_released done (h.steady hs) hrel
    exact ⟨_, exec_pageeval sel alt done _, hcnt, hpage.trans h.page⟩
  · have h := heldFrom_iterate done hs hc (n := 4) (by decide)
    have hfull : countAfter true true ((pageeval true true done)^[4] s).comboCnt = 5 :=
      Fin.ext (by rw [countAfter_held_val, h.count]; rfl)
    rw [Function.iterate_succ_apply', pageeval_of_steady_full true true done (h.steady hs) hfull]
    exact ⟨rfl, rfl, rfl, rfl, rfl⟩

end Sys2Proof.Machine
end

section
/-!
PROOFS. Exceptions (60_exceptions.md): the error classes each event raises (R230 to R235, R240, R243), and that no status of
the link reaches the page controller (R236).
-/

namespace Sys2Proof.Machine

/-! ### The classes an event raises (R230 to R235) -/

/-- An RXBYTE raises the class of its case, and STORE and COMPLETE raise none (R231, R232). -/
theorem rxbyteEvent_raised {b : Byte} {s t : State} (h : rxbyteEvent b s = .ok t) :
    t.out.raised = if 39 ≤ s.cur.toNat then [.bufferOverflow]
      else if s.cur.toNat = 38 ∧ b ≠ 0x17 then [.frameDesync] else [] := by
  rcases Nat.lt_trichotomy s.cur.toNat 38 with hc | hc | hc
  · cases (rxbyteEvent_store b s hc).symm.trans h
    rw [if_neg (by omega), if_neg fun hd => hc.ne hd.1]
    rfl
  · rw [if_neg (by omega)]
    by_cases hb : b = 0x17
    · subst hb
      cases (rxbyteEvent_complete s hc).symm.trans h
      exact (if_neg fun hd => hd.2 rfl).symm
    · cases (rxbyteEvent_desync b s hc hb).symm.trans h
      exact (if_pos ⟨hc, hb⟩).symm
  · cases (rxbyteEvent_overflow b s hc).symm.trans h
    exact (if_pos hc).symm

/-- The poll adds the comparison's class where a frame is pending, whether it is then accepted or rejected (R172, R233). -/
theorem rxpoll_raised (p : Config.Params) (s : State) :
    (rxpoll p s).out.raised = s.out.raised ++ if s.frdy then checksumErrors p s else [] := by
  cases h : s.frdy with
  | false =>
    rw [rxpoll_of_not_pending p h]
    exact (List.append_nil _).symm
  | true =>
    rw [rxpoll_of_pending p h, validateReject_eq, validateAccept_eq]
    split <;> rfl

/-- A TICK raises what its poll of the pending frame does: TXSTEP and PAGEEVAL raise nothing. -/
theorem tickEvent_raised {p : Config.Params} {inputs : TickInputs} {s t : State} (h : tickEvent p inputs s = .ok t) :
    t.out.raised = if s.frdy then checksumErrors p s else [] := by
  obtain ⟨u, hu, hte⟩ := tickEvent_eq p inputs s
  cases hte.symm.trans h
  have hus := of_eq_ok (txstep_ok p inputs.btn (clearOut s)) hu
  rw [pageeval_frame, rxpoll_raised, hus]
  rfl

/-- The pending flag and the comparison select the class as one condition (R233). -/
theorem pending_checksumErrors (p : Config.Params) (s : State) :
    (if s.frdy then checksumErrors p s else []) =
      if s.frdy = true ∧ p.csum (s.flatch.bytes 0 37) ≠ s.flatch.read 37 then [.checksumMismatch] else [] := by
  simp only [checksumErrors, checksumBad_eq, decide_eq_true_iff, ite_and]

/-- Settles O54: RXBYTE case by case, TICK by its poll, and RESET leaves idle outputs. -/
theorem errorClassesAreRaisedExactly : Obligations.ErrorClassesAreRaisedExactly := by
  refine ⟨fun b s t h => rxbyteEvent_raised (eq_ok_of_ending h), fun inputs s t h => ?_, fun s t h => ?_⟩
  · exact (tickEvent_raised (eq_ok_of_ending h)).trans (pending_checksumErrors Config.params s)
  · cases h
    rfl

/-! ### The status of the link and the page controller (R236) -/

/-- `s` with another `LINK_HEALTH` and `CSUM_BAD`. -/
def withLinkStatus (health : LinkHealth) (bad : Bool) (s : State) : State :=
  { s with linkHealth := health, csumBad := bad }

theorem applyP0_withLinkStatus (health : LinkHealth) (bad done : Bool) (s : State) :
    applyP0 done (withLinkStatus health bad s) = withLinkStatus health bad (applyP0 done s) := by
  cases done <;> rfl

theorem applyRule_withLinkStatus (health : LinkHealth) (bad : Bool) (r : PageRule) (s : State) :
    applyRule r (withLinkStatus health bad s) = withLinkStatus health bad (applyRule r s) := by
  cases r <;> rfl

/-- An evaluation selects its rule by the page, TELEM and the count, and the rule keeps the status it finds (R236). -/
theorem pageeval_withLinkStatus (sel alt done : Bool) (health : LinkHealth) (bad : Bool) (s : State) :
    pageeval sel alt done (withLinkStatus health bad s) = withLinkStatus health bad (pageeval sel alt done s) := by
  by_cases h : s.page = .init
  · rw [pageeval_init sel alt done s h, pageeval_init sel alt done (withLinkStatus health bad s) h,
      applyP0_withLinkStatus]
  · have hcnt : applyCnt sel alt (withLinkStatus health bad s) = withLinkStatus health bad (applyCnt sel alt s) := rfl
    have hrule : firstRule sel alt (withLinkStatus health bad (applyCnt sel alt s)) =
        firstRule sel alt (applyCnt sel alt s) := rfl
    rw [pageeval_of_ne_init sel alt done s h, pageeval_of_ne_init sel alt done (withLinkStatus health bad s) h,
      hcnt, hrule, applyRule_withLinkStatus]

/-- Settles O55: the evaluation completes, and with another status it is the same but for that status. -/
theorem pageControllerIgnoresLinkStatus : Obligations.PageControllerIgnoresLinkStatus :=
  fun s health bad sel alt done => ⟨_, exec_pageeval sel alt done s,
    congrArg Host.Outcome.next (pageeval_withLinkStatus sel alt done health bad s)⟩

end Sys2Proof.Machine
end

section
/-!
PROOFS. RESET (70_reset_and_hazards.md): one event gives every item of state its reset value and idles every output (R55, R260).
-/

namespace Sys2Proof.Machine

/-- R260: RESET ends in the reset state, whatever the state was; the stimuli to come stay the environment's. -/
theorem exec_reset (s : State) : exec .reset s = .next { State.reset with stim := s.stim } := rfl

/-- Settles O12: the reset state holds R55's values, and an emptied buffer reads 0x00 at every index. -/
theorem resetRestoresEveryItem : Obligations.ResetRestoresEveryItem :=
  fun s => ⟨_, exec_reset s, rfl, fun i => ⟨read_nil i, read_nil i, read_nil i⟩⟩

end Sys2Proof.Machine
end
